-- ==== Sys2Proof/Word.lean ====
section
/-!
DEFINITION. The word types of the block, at the widths the spec fixes (`spec/00_scope.md` R10, R12;
`spec/44_arithmetic_and_absent_classes.md` R161). Every value is unsigned and bit 0 is the least significant bit;
a single bit is a `Bool`, true for 1 (`spec/40_parity.md` R85).
-/

namespace Sys2Proof

/-- A 32-bit value: a codeword, a received word or an operand of `PAR` (formats C32 and V32, R55, R57). -/
abbrev Word32 := BitVec 32

/-- Format D26, the data word: 26 bits, every value legal (`spec/30_encoding.md` R56). -/
abbrev DataWord := BitVec 26

/-- Format S5, the syndrome: 5 bits, one for each group (`spec/30_encoding.md` R63). -/
abbrev Syndrome := BitVec 5

/-- Format REQ34, `{op[1:0], arg[31:0]}` (`spec/30_encoding.md` R68). -/
abbrev RequestWord := BitVec 34

/-- Format RSP35, `{rc[2:0], val[31:0]}` (`spec/30_encoding.md` R69). -/
abbrev ResponseWord := BitVec 35

end Sys2Proof
end

