-- ==== Sys2Proof/Config.lean ====
section
/-!
DEFINITION. What the spec leaves open and fixes per implementation (`spec/00_scope.md` R11): `DED_DATA` alone. The other
open parameter, the propagation delay `T_PD`, is one "the model does not represent" (R11) and has no constant here.
The code's own parameters (26 data bits, 32 code bits, 5 Hamming parity bits) are "fixed, not configurable" (R10).
-/

namespace Sys2Proof

/-- `DED_DATA : Bits32 -> Bits26`, the value on the `dec_data` wires while `dec_ded = 1`: "any value, a function of
`dec_code` only" (R11, `spec/42_decoder.md` R131). A FREE VALUE without a body: nothing can be proved of which value it
is (notes/assumptions/4.md). -/
opaque Config.dedData : Word32 → DataWord

end Sys2Proof
end

