-- ==== Sys2Proof/Machine/Operands.lean ====
section
/-!
DEFINITION. The functions of the operands that the units share: the XOR reduction, the covering sets and the checks of the
five groups, the scatter and gather wiring with the position maps. Masks as `spec/30_encoding.md` R59, R60 and R66 print
them.
-/

namespace Sys2Proof.Machine

/-- The XOR of the bits `v[0]` to `v[n-1]`, the loop of `spec/40_parity.md` R86 after `n` rounds. -/
def xorBits {width : Nat} (v : BitVec width) : Nat → Bool
  | 0 => false
  | n + 1 => xorBits v n ^^ v.getLsbD n

/-- `XOR_REDUCE` of a value of any width (`spec/00_scope.md` R13). -/
def xorReduce {width : Nat} (v : BitVec width) : Bool := xorBits v width

/-- `PAR(v) = XOR_REDUCE(v)` (`spec/40_parity.md` R86). -/
def par (v : Word32) : Bool := xorReduce v

/-- The mask `M[k]` of group `k`, the covering set of the parity bit at position `2^k` (R60). -/
def coverMask : Fin 5 → Word32
  | 0 => 0xAAAAAAAA#32
  | 1 => 0xCCCCCCCC#32
  | 2 => 0xF0F0F0F0#32
  | 3 => 0xFF00FF00#32
  | 4 => 0xFFFF0000#32

/-- The check of group `k` of a word: `PAR(x & M[k])` (`spec/41_encoder.md` R97, `spec/42_decoder.md` R117). -/
def groupCheck (x : Word32) (k : Fin 5) : Bool := par (x &&& coverMask k)

/-- A single bit at a position of a 32-bit word, all other bits zero. -/
def bitAt (b : Bool) (position : Nat) : Word32 := (BitVec.ofBool b).setWidth 32 <<< position

/-- Data ranges A to D as masks over the zero-extended data word (R59). -/
def dataMaskA : Word32 := 0x0000001#32
def dataMaskB : Word32 := 0x000000E#32
def dataMaskC : Word32 := 0x00007F0#32
def dataMaskD : Word32 := 0x3FFF800#32

/-- Data ranges A to D as masks over the codeword (R59). -/
def posMaskA : Word32 := 0x00000008#32
def posMaskB : Word32 := 0x000000E0#32
def posMaskC : Word32 := 0x0000FE00#32
def posMaskD : Word32 := 0xFFFE0000#32

/-- `SCATTER(d)`: the data bits at the 26 data positions, zero at the six check positions (R66). -/
def scatter (d : DataWord) : Word32 :=
  let z := d.setWidth 32
  (z &&& dataMaskA) <<< 3 ||| (z &&& dataMaskB) <<< 4 ||| (z &&& dataMaskC) <<< 5 ||| (z &&& dataMaskD) <<< 6

/-- `GATHER(w)`: the 26 bits at the data positions (R66). -/
def gather (w : Word32) : DataWord :=
  ((w &&& posMaskA) >>> 3 ||| (w &&& posMaskB) >>> 4 ||| (w &&& posMaskC) >>> 5 ||| (w &&& posMaskD) >>> 6).setWidth 26

/-- `POS(n)`, the position of data bit `n` (R59). -/
def pos (n : Nat) : Nat :=
  if n = 0 then n + 3 else if n ≤ 3 then n + 4 else if n ≤ 10 then n + 5 else n + 6

/-- `NUM(j)`, the data bit at data position `j` (R59). -/
def num (j : Nat) : Nat :=
  if j = 3 then j - 3 else if j ≤ 7 then j - 4 else if j ≤ 15 then j - 5 else j - 6

/-- The six check positions: the overall parity and the five Hamming parity bits (R57). -/
def checkPositions : List Nat := [0, 1, 2, 4, 8, 16]

end Sys2Proof.Machine
end

