-- ==== Sys2Proof/Syntax.lean ====
section
/-!
DEFINITION. The operations and the formats of their results. One constructor of `Instr` for each row of
`spec/opcode_table.json`; the result types are `DecResult` (format DR), `Response` (format RSP35 as a tagged value) and
`Status` (format ST2).
-/

namespace Sys2Proof

/-- The three operations of the block with their operands at the width of the unit's input port
(`spec/00_scope.md` R3, `spec/30_encoding.md` R55, R70). -/
inductive Instr where
  /-- `PAR v`: the parity XOR tree, any 32-bit operand (`spec/40_parity.md` R85). -/
  | par (v : Word32)
  /-- `ENC d`: the encoder; the operand is exactly 26 bits wide, so an out-of-range data word cannot be written
  (`spec/10_state.md` R27, `spec/41_encoder.md` R104). -/
  | enc (d : DataWord)
  /-- `DEC c`: the decoder, any 32-bit received word (`spec/42_decoder.md` R115). -/
  | dec (c : Word32)
  deriving DecidableEq, Repr

/-- Why the envelope rejects a request (`spec/30_encoding.md` R71, `spec/60_exceptions.md` R166). -/
inductive RejectReason where
  /-- `op = 01` with `arg[31:26] != 0`. -/
  | outOfRange
  /-- `op = 11`. -/
  | reservedOp
  deriving DecidableEq, Repr

/-- Format DR, the tagged result of `DEC`; the double error carries no data (`spec/30_encoding.md` R65,
`spec/42_decoder.md` R134). -/
inductive DecResult where
  | data (x : DataWord)
  | doubleErrorDetected
  deriving DecidableEq, Repr

/-- The tagged response to a request (`spec/30_encoding.md` R69). -/
inductive Response where
  | parityBit (b : Bool)
  | codeword (w : Word32)
  | data (x : DataWord)
  | doubleErrorDetected
  | rejected (why : RejectReason)
  deriving DecidableEq, Repr

/-- Format ST2, the names of the four codes of `dec_status` (`spec/30_encoding.md` R64). -/
inductive Status where
  | clean
  | p0Error
  | corrected
  | doubleError
  deriving DecidableEq, Repr

/-- One row of the opcode map: a request word belongs to the row when its bits under `mask` are `pattern`
(`spec/30_encoding.md` R70). -/
structure OpcodeRow where
  mnemonic : String
  mask     : RequestWord
  pattern  : RequestWord
  deriving DecidableEq, Repr

end Sys2Proof
end

