-- ==== Sys2Proof/Machine/Flags.lean ====
section
/-!
DEFINITION. The status values of one evaluation of `DEC`: the overall parity check, the syndrome generator and the error
detector (`spec/42_decoder.md` R116, R117, R119), the names of the status codes (`spec/30_encoding.md` R64), and what a
valid codeword is (R62). None of them is stored (`spec/10_state.md` R24).
-/

namespace Sys2Proof.Machine

/-- `p = PAR(c)`, also `OPAR c` (R116, R75). -/
def decPar (c : Word32) : Bool := par c

/-- `i = {i4, i3, i2, i1, i0}` with `i[k] = PAR(c & M[k])`, also `SYN c` (R117, R128, R75). -/
def decSyn (c : Word32) : Syndrome :=
  (BitVec.ofBool (groupCheck c 4)).setWidth 5 <<< 4 ||| (BitVec.ofBool (groupCheck c 3)).setWidth 5 <<< 3
    ||| (BitVec.ofBool (groupCheck c 2)).setWidth 5 <<< 2 ||| (BitVec.ofBool (groupCheck c 1)).setWidth 5 <<< 1
    ||| (BitVec.ofBool (groupCheck c 0)).setWidth 5

/-- `nz = (i != 0)` (R119). -/
def decNz (c : Word32) : Bool := decSyn c != 0#5

/-- `fix = nz & p`: the corrector is enabled (R119). -/
def decFix (c : Word32) : Bool := decNz c && decPar c

/-- `dec_ded = nz & ~p` (R119, R130). -/
def decDed (c : Word32) : Bool := decNz c && !decPar c

/-- `dec_status = {nz, p}`, also `STAT c` (R119, R130, R75). -/
def decStatus (c : Word32) : BitVec 2 :=
  (BitVec.ofBool (decNz c)).setWidth 2 <<< 1 ||| (BitVec.ofBool (decPar c)).setWidth 2

/-- The code of a status name (R64). -/
def statusCode : Status → BitVec 2
  | .clean => 0b00#2
  | .p0Error => 0b01#2
  | .corrected => 0b11#2
  | .doubleError => 0b10#2

/-- `CHK c`: 1 when `STAT c = 00` (R75). -/
def chk (c : Word32) : Bool := decStatus c == statusCode .clean

/-- A valid codeword: the five group checks and the overall check are zero (R62). -/
abbrev validCodeword (w : Word32) : Prop := (∀ k : Fin 5, groupCheck w k = false) ∧ par w = false

end Sys2Proof.Machine
end

