-- ==== Sys2Proof/WellFormed.lean ====
section
/-!
DEFINITION. Which requests the envelope accepts, said on the numbers `req = op * 2^32 + arg`
(`spec/30_encoding.md` R68, R71; `spec/60_exceptions.md` R173), apart from the bit fields the decoder reads, and which
instructions are well formed: all of them, since the operand of each has the width of its port (R72).
-/

namespace Sys2Proof

/-- The number in the `op` field of a request. -/
def RequestWord.opNumber (r : RequestWord) : Nat := r.toNat / 2 ^ 32

/-- The number in the `arg` field of a request. -/
def RequestWord.argNumber (r : RequestWord) : Nat := r.toNat % 2 ^ 32

/-- Check (1) of R173: the operation select is not the reserved one. -/
def RequestWord.opDefined (r : RequestWord) : Bool := r.opNumber != 3

/-- Check (2) of R173: an `ENC` request presents a data word below `2^26`. -/
def RequestWord.encInRange (r : RequestWord) : Bool := r.opNumber != 1 || r.argNumber < 2 ^ 26

/-- A request that is evaluated: both checks of R173 pass. -/
def RequestWord.wellFormed (r : RequestWord) : Bool := r.opDefined && r.encInRange

/-- Every operand that an instruction can carry is legal: `PAR` and `DEC` take every 32-bit value, `ENC` takes every
value below `2^26` (R72). The bound of `ENC` is the precondition of R104, met by the type of the operand. -/
def Instr.wellFormed : Instr → Bool
  | .par _ => true
  | .enc d => d.toNat < 2 ^ 26
  | .dec _ => true

end Sys2Proof
end

