-- ==== Sys2Proof/Decode.lean ====
section
/-!
DEFINITION. The decoder of the request envelope, total on all `2^34` request words and rejecting by name
(`spec/30_encoding.md` R68, R70, R71; `spec/60_exceptions.md` R173), and after it the encoder. The block never sees bytes
(`spec/20_memory.md` R41), so a request is one 34-bit number (notes/assumptions/7.md).
-/

namespace Sys2Proof

/-- The `op` field, `req[33:32]` (R68). -/
def reqOp (r : RequestWord) : BitVec 2 := r.extractLsb' 32 2

/-- The `arg` field, `req[31:0]` (R68). -/
def reqArg (r : RequestWord) : Word32 := r.extractLsb' 0 32

/-- `arg[31:26]`, which must be zero in an `ENC` request (R68). -/
def argHigh (a : Word32) : BitVec 6 := a.extractLsb' 26 6

/-- `arg[25:0]`, the data word of an `ENC` request (R68). -/
def argData (a : Word32) : DataWord := a.extractLsb' 0 26

/-- The checks in the order of R173, then the opcode map of R70. -/
def decode (r : RequestWord) : Except RejectReason Instr :=
  if reqOp r = 0b11#2 then .error .reservedOp
  else if reqOp r = 0b01#2 ∧ argHigh (reqArg r) ≠ 0#6 then .error .outOfRange
  else if reqOp r = 0b00#2 then .ok (.par (reqArg r))
  else if reqOp r = 0b01#2 then .ok (.enc (argData (reqArg r)))
  else .ok (.dec (reqArg r))

/-- `req[33:0] = {op[1:0], arg[31:0]}` (R68). -/
def requestWord (op : BitVec 2) (arg : Word32) : RequestWord := op.setWidth 34 <<< 32 ||| arg.setWidth 34

/-- The request word of an instruction, written from the patterns of R70: `arg[31:26]` of an `ENC` request is zero. -/
def encode : Instr → RequestWord
  | .par v => requestWord 0b00#2 v
  | .enc d => requestWord 0b01#2 (d.setWidth 32)
  | .dec c => requestWord 0b10#2 c

/-- The rows of the opcode map with the masks and matches it prints (R70, `spec/opcode_table.json`). -/
def opcodeTable : List OpcodeRow :=
  [ ⟨"PAR", 0x300000000#34, 0x000000000#34⟩,
    ⟨"ENC", 0x3FC000000#34, 0x100000000#34⟩,
    ⟨"DEC", 0x300000000#34, 0x200000000#34⟩ ]

/-- A request word belongs to a row of the opcode map. -/
def OpcodeRow.matchesWord (row : OpcodeRow) (r : RequestWord) : Bool := r &&& row.mask == row.pattern

/-- The mnemonic of an instruction, as `spec/opcode_table.json` spells it. -/
def Instr.mnemonic : Instr → String
  | .par _ => "PAR"
  | .enc _ => "ENC"
  | .dec _ => "DEC"

/-- The request that a table word stands for: its low `nbits` bits, where no bit above bit 33 is set (a request is
always 34 bits, R73). -/
def requestOfNat (nbits w : Nat) : Option RequestWord :=
  if w % 2 ^ nbits < 2 ^ 34 then some (BitVec.ofNat 34 (w % 2 ^ nbits)) else none

/-- The instruction that the decoder reads from a word of `spec/opcode_table.json`. -/
def decodeTableWord (nbits w : Nat) : Option Instr :=
  match requestOfNat nbits w with
  | none => none
  | some r =>
    match decode r with
    | .ok i => some i
    | .error _ => none

end Sys2Proof
end

