-- ==== Sys2Proof/Machine/State.lean ====
section
/-!
DEFINITION. State, faults and refusals. The block itself has no state at all: "A model's machine state for this block is
the unit type" (`spec/10_state.md` R20). What stands here is the interface around it, as plain data: what the host drives
on the three input ports (R27 to R30), the requests the host has presented and that are not yet evaluated, and the
responses returned so far (`spec/00_scope.md` R18; notes/assumptions/1.md). The seven output ports are wires, functions of
the inputs, and are computed from them in `Sys2Proof/Machine/Ports.lean`, never stored (R31).
-/

namespace Sys2Proof.Machine

/-- The interface of the block. An input port is `none` while the host does not drive it with a definite value on every
wire: the spec's own condition, under which the outputs of the unit have no value
(`spec/70_reset_and_hazards.md` R186). -/
structure State where
  /-- `par_in[31:0]` (R29). -/
  parIn     : Option Word32
  /-- `enc_data[25:0]` (R27). -/
  encData   : Option DataWord
  /-- `dec_code[31:0]` (R28). -/
  decCode   : Option Word32
  /-- The requests presented and not yet evaluated, oldest first (`spec/30_encoding.md` R68). -/
  requests  : List RequestWord
  /-- The responses returned so far, oldest first (`spec/30_encoding.md` R69, `spec/00_scope.md` R18). -/
  responses : List Response
  deriving DecidableEq, Repr

/-- A fault. There is none, so the type has no constructor and no step can raise one: "A model's step returns a response;
it has no fault state and no fault bit to carry" (`spec/60_exceptions.md` R165). The double error and the two rejections
are responses. -/
inductive Fault where
  deriving DecidableEq, Repr

/-- A refusal of the model. -/
inductive Refusal where
  /-- An instruction without a meaning. Safe. Raised by nobody: every arm of `exec` has its meaning; the constructor is
  the host's interface. -/
  | notModelled (mnemonic : String)
  deriving DecidableEq, Repr

/-- There is no reset and nothing to reset (`spec/70_reset_and_hazards.md` R185, `spec/10_state.md` R34): before the host
acts, no input is driven, no request has been presented and no response returned (notes/assumptions/2.md). -/
def State.reset : State :=
  { parIn := none, encData := none, decCode := none, requests := [], responses := [] }

end Sys2Proof.Machine
end

