-- ==== Sys2Proof/Machine/Ops.lean ====
section
/-!
DEFINITION. The named operations over the interface: the host drives or releases an input port or presents a request
(`spec/70_reset_and_hazards.md` R188), a response is returned, a request is taken for evaluation, a request is rejected.
There is no exception entry and no return from one to model: "Trap entry (G4): there is none" (`spec/60_exceptions.md`
R174, R175).
-/

namespace Sys2Proof.Machine

/-- The host presents a whole operand on `par_in` (`spec/10_state.md` R29, `spec/20_memory.md` R43). -/
def State.drivePar (v : Word32) (s : State) : State := { s with parIn := some v }

/-- The host presents a whole operand on `enc_data` (R27). -/
def State.driveEnc (d : DataWord) (s : State) : State := { s with encData := some d }

/-- The host presents a whole operand on `dec_code` (R28). -/
def State.driveDec (c : Word32) (s : State) : State := { s with decCode := some c }

/-- The host stops driving some wire of `par_in` (`spec/70_reset_and_hazards.md` R186). -/
def State.releasePar (s : State) : State := { s with parIn := none }

/-- The host stops driving some wire of `enc_data` (R186). -/
def State.releaseEnc (s : State) : State := { s with encData := none }

/-- The host stops driving some wire of `dec_code` (R186). -/
def State.releaseDec (s : State) : State := { s with decCode := none }

/-- The host presents a request behind those that still wait (`spec/30_encoding.md` R68). -/
def State.present (r : RequestWord) (s : State) : State := { s with requests := s.requests ++ [r] }

/-- A request is put before those that wait, so that the next step evaluates it. -/
def State.presentNext (r : RequestWord) (s : State) : State := { s with requests := r :: s.requests }

/-- A response is returned to the host (`spec/30_encoding.md` R69). -/
def State.respond (a : Response) (s : State) : State := { s with responses := s.responses ++ [a] }

/-- The oldest request that waits, and the interface without it. -/
def takeRequest (s : State) : Option (RequestWord × State) :=
  match s.requests with
  | [] => none
  | r :: rest => some (r, { s with requests := rest })

/-- A request outside the opcode map is answered by `Rejected`, and nothing is evaluated (`spec/30_encoding.md` R71,
`spec/60_exceptions.md` R168, R169). -/
def rejectRequest (why : RejectReason) (s : State) : State := s.respond (.rejected why)

end Sys2Proof.Machine
end

