-- ==== Sys2Proof/Machine/Decoder.lean ====
section
/-!
DEFINITION. The decoder (`spec/42_decoder.md`): the error corrector, the extractor, the function `DEC`, the data wires with
the free value they carry under a double error, and the meaning of `DEC`.
-/

namespace Sys2Proof.Machine

/-- `e = fix ? (1 << i) : 0`, the correction mask (R123). -/
def corrMask (c : Word32) : Word32 := if decFix c then 1#32 <<< (decSyn c).toNat else 0#32

/-- `cc = c ^ e`, the corrected word, internal to the block (R123, R125). -/
def corrected (c : Word32) : Word32 := c ^^^ corrMask c

/-- `x = GATHER(cc)` (R126). -/
def extracted (c : Word32) : DataWord := gather (corrected c)

/-- `DEC(c)`: `DoubleErrorDetected` where the detector raises it, else the extracted data (R119, R128). -/
def dec (c : Word32) : DecResult := if decDed c then .doubleErrorDetected else .data (extracted c)

/-- The value on the wires `dec_data`: `x` while `dec_ded = 0`, the free value `DED_DATA(c)` while `dec_ded = 1`
(R130, R131). -/
def decData (c : Word32) : DataWord := if decDed c then Config.dedData c else extracted c

/-- The tagged result of `DEC` as a response (`spec/30_encoding.md` R69). -/
def decResponse : DecResult → Response
  | .data x => .data x
  | .doubleErrorDetected => .doubleErrorDetected

/-- `DEC c`: the operand stands on `dec_code` and the response is `Data(x)` or `DoubleErrorDetected`
(R115, R128, R135). -/
def execDec (c : Word32) (s : State) : Host.Outcome State Fault Refusal :=
  .next ((s.driveDec c).respond (decResponse (dec c)))

end Sys2Proof.Machine
end

