-- ==== Sys2Proof/Machine/Encoder.lean ====
section
/-!
DEFINITION. The encoder (`spec/41_encoder.md`): the internal values `h`, `q`, `hp` and `p0` of `spec/10_state.md` R31, the
function `ENC`, and the meaning of `ENC`.
-/

namespace Sys2Proof.Machine

/-- `q[k] = PAR(h & M[k])` with `h = SCATTER(d)` (R97). -/
def encParity (d : DataWord) (k : Fin 5) : Bool := groupCheck (scatter d) k

/-- `hp`: `h` with the five Hamming parity bits at positions 1, 2, 4, 8 and 16 (R97). -/
def encHp (d : DataWord) : Word32 :=
  scatter d ||| bitAt (encParity d 0) 1 ||| bitAt (encParity d 1) 2 ||| bitAt (encParity d 2) 4
    ||| bitAt (encParity d 3) 8 ||| bitAt (encParity d 4) 16

/-- `p0 = PAR(hp)`, computed with bit 0 still zero (R99). -/
def encP0 (d : DataWord) : Bool := par (encHp d)

/-- `ENC(d) = hp | p0` (R99, R100). -/
def enc (d : DataWord) : Word32 := encHp d ||| bitAt (encP0 d) 0

/-- Step 2 done one parity bit at a time: the check of group `k` of the word so far is placed at position `2^k` (R98). -/
def placeParity (w : Word32) (k : Fin 5) : Word32 := w ||| bitAt (groupCheck w k) (2 ^ k.val)

/-- `ENC d`: the operand stands on `enc_data` and the response is `Codeword(ENC(d))` (R95, R100, R105). -/
def execEnc (d : DataWord) (s : State) : Host.Outcome State Fault Refusal :=
  .next ((s.driveEnc d).respond (.codeword (enc d)))

end Sys2Proof.Machine
end

