-- ==== Sys2Proof/Machine/Parity.lean ====
section
/-!
DEFINITION. The parity XOR tree (`spec/40_parity.md`): the fold the document describes, beside the definition of
`Sys2Proof/Machine/Operands.lean` that the model uses (R86), and the meaning of `PAR`.
-/

namespace Sys2Proof.Machine

/-- The 16-bit table whose bit `n` is the parity of the nibble `n` (R88). -/
def nibbleParity : BitVec 16 := 0x6996#16

/-- `v1`, `v2` and `v3` of the fold (R87). -/
def foldBy16 (v : Word32) : Word32 := v ^^^ (v >>> 16)
def foldBy8 (v : Word32) : Word32 := foldBy16 v ^^^ (foldBy16 v >>> 8)
def foldBy4 (v : Word32) : Word32 := foldBy8 v ^^^ (foldBy8 v >>> 4)

/-- `PAR_fold(v) = (NIBBLE_PARITY >> n) & 1` with `n = v3 & 0xF` (R87). -/
def parFold (v : Word32) : Bool := (nibbleParity >>> (foldBy4 v &&& 0xF#32).toNat).getLsbD 0

/-- `PAR v`: the operand stands on `par_in` and the response is `ParityBit(PAR(v))` (R85, R86, R90). -/
def execPar (v : Word32) (s : State) : Host.Outcome State Fault Refusal :=
  .next ((s.drivePar v).respond (.parityBit (par v)))

end Sys2Proof.Machine
end

