-- ==== Sys2Proof/Machine/Dispatch.lean ====
section
/-!
DEFINITION. One arm for each row of `spec/opcode_table.json`.
-/

namespace Sys2Proof.Machine

def exec (i : Instr) (s : State) : Host.Outcome State Fault Refusal :=
  match i with
  | .par v => Sys2Proof.Machine.execPar v s
  | .enc d => Sys2Proof.Machine.execEnc d s
  | .dec c => Sys2Proof.Machine.execDec c s

end Sys2Proof.Machine
end

