-- ==== Sys2Proof/Machine/Ports.lean ====
section
/-!
DEFINITION. The seven output ports of `spec/10_state.md` R30 as views of the state. An output has a value exactly while
the input of its unit is driven, and it is then the function of that input (`spec/70_reset_and_hazards.md` R186): a level,
not an event, that nothing latches (`spec/60_exceptions.md` R167). The three units compute all the time
(`spec/30_encoding.md` R55) and share no port (`spec/20_memory.md` R52).
-/

namespace Sys2Proof.Machine

/-- `par_out` (R29). -/
def State.parOut (s : State) : Option Bool := s.parIn.map par

/-- `enc_code[31:0]` (R27). -/
def State.encCode (s : State) : Option Word32 := s.encData.map enc

/-- `dec_data[25:0]`, not to be read while `dec_ded = 1` (R28). -/
def State.decDataOut (s : State) : Option DataWord := s.decCode.map decData

/-- `dec_ded` (R28). -/
def State.decDedOut (s : State) : Option Bool := s.decCode.map decDed

/-- `dec_syn[4:0]` (R28). -/
def State.decSynOut (s : State) : Option Syndrome := s.decCode.map decSyn

/-- `dec_par` (R28). -/
def State.decParOut (s : State) : Option Bool := s.decCode.map decPar

/-- `dec_status[1:0]` (R28). -/
def State.decStatusOut (s : State) : Option (BitVec 2) := s.decCode.map decStatus

end Sys2Proof.Machine
end

