-- ==== Sys2Proof/Machine/Envelope.lean ====
section
/-!
DEFINITION. The request envelope as a function of the request alone, which is shape (b) of `spec/10_state.md` R35 with the
unit state left out: the tagged response (`spec/30_encoding.md` R69), its result code (`spec/60_exceptions.md` R166) and
the flat word RSP35.
-/

namespace Sys2Proof.Machine

/-- The response of an accepted request: the value of the operation (R70). -/
def responseOf : Instr → Response
  | .par v => .parityBit (par v)
  | .enc d => .codeword (enc d)
  | .dec c => decResponse (dec c)

/-- The response to any request word (R69, R71, R173). -/
def envelope (r : RequestWord) : Response :=
  match decode r with
  | .ok i => responseOf i
  | .error why => .rejected why

/-- The result code `rc` of a response (R166). -/
def resultCode : Response → BitVec 3
  | .parityBit _ => 0#3
  | .codeword _ => 0#3
  | .data _ => 0#3
  | .doubleErrorDetected => 1#3
  | .rejected .outOfRange => 2#3
  | .rejected .reservedOp => 3#3

/-- The field `val` of a response; `ded` is what it carries under a double error (R69). -/
def resultValue (ded : DataWord) : Response → Word32
  | .parityBit b => bitAt b 0
  | .codeword w => w
  | .data x => x.setWidth 32
  | .doubleErrorDetected => ded.setWidth 32
  | .rejected _ => 0#32

/-- `rsp[34:0] = {rc[2:0], val[31:0]}` of a request; a double error carries `zext_32(DED_DATA)`, a free value (R69). -/
def responseWord (r : RequestWord) : ResponseWord :=
  (resultCode (envelope r)).setWidth 35 <<< 32 ||| (resultValue (Config.dedData (reqArg r)) (envelope r)).setWidth 35

end Sys2Proof.Machine
end

