-- ==== Sys2Proof/Machine/Step.lean ====
section
/-!
DEFINITION. One step: the oldest request that waits is taken and evaluated, or rejected; with no request there is nothing
to evaluate and the interface stays as it is (`spec/10_state.md` R35, `spec/20_memory.md` R53; notes/assumptions/5.md).
-/

namespace Sys2Proof.Machine

def step (s : State) : Host.Outcome State Fault Refusal :=
  match takeRequest s with
  | none => .next s
  | some (r, s') =>
    match decode r with
    | .ok i => exec i s'
    | .error why => .next (rejectRequest why s')

/-- The host presents the request of a table word as the next one; a number that is no 34-bit word is no request and
changes nothing. -/
def State.withFetchWord (s : State) (nbits w : Nat) : State :=
  match requestOfNat nbits w with
  | some r => s.presentNext r
  | none => s

end Sys2Proof.Machine
end

