-- ==== Sys2Proof/Machine/Channel.lean ====
section
/-!
DEFINITION. The environment's words, used in statements and performed by no step: the channel that flips positions of a
word (`FLIP`, `XOR`, `AND` of `spec/30_encoding.md` R75, `E(j)` of `spec/43_code_properties.md`), the number of ones of a
word and the XOR of the indices of its ones (`spec/42_decoder.md` R118).
-/

namespace Sys2Proof.Machine

/-- `E(j) = 1 << j`. -/
def oneHot (j : Nat) : Word32 := 1#32 <<< j

/-- `FLIP w, j` (R75). -/
def flip (w : Word32) (j : Nat) : Word32 := w ^^^ oneHot j

/-- `XOR w, m` (R75). -/
def channelXor (w m : Word32) : Word32 := w ^^^ m

/-- `AND w, m` (R75). -/
def channelAnd (w m : Word32) : Word32 := w &&& m

/-- How many of the bits `v[0]` to `v[n-1]` are 1. -/
def countBits {width : Nat} (v : BitVec width) : Nat → Nat
  | 0 => 0
  | n + 1 => countBits v n + (v.getLsbD n).toNat

/-- `popcount(v)` (`spec/00_scope.md` R13). -/
def popcount {width : Nat} (v : BitVec width) : Nat := countBits v width

/-- The XOR of the indices below `n` at which `err` has a 1. -/
def xorIndices (err : Word32) : Nat → Syndrome
  | 0 => 0#5
  | n + 1 => xorIndices err n ^^^ (if err.getLsbD n then BitVec.ofNat 5 n else 0#5)

/-- The bitwise XOR of the indices of the flipped positions of an error pattern (R118). -/
def indexXor (err : Word32) : Syndrome := xorIndices err 32

end Sys2Proof.Machine
end

