-- ==== Sys2Proof/Safety.lean ====
section
/-!
DEFINITION. What a safe state of the interface is, in the terms the statements use: every codeword that the block has
returned satisfies the codeword invariant of `spec/30_encoding.md` R62, which is what `spec/41_encoder.md` R95 promises of
an encoder output.
-/

namespace Sys2Proof.Machine

/-- Every codeword among the responses is a valid codeword. -/
def State.codewordsValid (s : State) : Prop := ∀ w : Word32, Response.codeword w ∈ s.responses → validCodeword w

end Sys2Proof.Machine
end

