-- ==== Sys2Proof/Certificates/Slice0/Obligations.lean ====
section
/-!
DEFINITION. The statements for the provers, in the order of the spec's files: formats and layout (`30_encoding.md`), `PAR`
(`40_parity.md`), `ENC` (`41_encoder.md`), `DEC` (`42_decoder.md`), the laws of the code (`43_code_properties.md`), the
envelope and the step (`30_encoding.md`, `60_exceptions.md`), the ports and reset (`10_state.md`,
`70_reset_and_hazards.md`). `E(j)` of the spec is `oneHot j`, and `flip w j` is `w ^ E(j)`.
-/

open Sys2Proof Sys2Proof.Machine

/-! ### Formats and layout -/

/-- R57: the fields of a codeword, data bits `d[25:11]`, `d[10:4]`, `d[3:1]` and `d[0]` in positions 31:17, 15:9, 7:5 and 3,
a check bit for each group at position `2^k`, and an overall parity that makes the word even. -/
def Obligations.CodewordFieldLayout : Prop :=
  ∀ d : DataWord,
    (enc d).extractLsb' 17 15 = d.extractLsb' 11 15 ∧
    (enc d).extractLsb' 9 7 = d.extractLsb' 4 7 ∧
    (enc d).extractLsb' 5 3 = d.extractLsb' 1 3 ∧
    (enc d).getLsbD 3 = d.getLsbD 0 ∧
    (∀ k : Fin 5, (enc d).getLsbD (2 ^ k.val) = par (enc d &&& coverMask k &&& ~~~ oneHot (2 ^ k.val))) ∧
    (enc d).getLsbD 0 = par (enc d &&& ~~~ oneHot 0) ∧
    popcount (enc d) % 2 = 0

/-- R58 and R60: group `k` is the set of positions whose index has bit `k` set; position 0 is in no group, position `2^k`
in group `k` only, every data position in at least two; and data position `j` carries `d[NUM(j)]`. The spec marks the
mask values as its own derivation from the membership rule. -/
def Obligations.PositionRolesAndGroups : Prop :=
  (coverMask 0 = 0xAAAAAAAA#32 ∧ coverMask 1 = 0xCCCCCCCC#32 ∧ coverMask 2 = 0xF0F0F0F0#32 ∧
    coverMask 3 = 0xFF00FF00#32 ∧ coverMask 4 = 0xFFFF0000#32) ∧
  (∀ (k : Fin 5) (j : Fin 32), (coverMask k).getLsbD j.val = j.val.testBit k.val) ∧
  (∀ k : Fin 5, popcount (coverMask k) = 16) ∧
  (∀ k : Fin 5, (coverMask k).getLsbD 0 = false) ∧
  (∀ k m : Fin 5, (coverMask m).getLsbD (2 ^ k.val) = decide (m = k)) ∧
  (∀ j : Fin 32, j.val ∉ checkPositions →
    ∃ k m : Fin 5, k ≠ m ∧ (coverMask k).getLsbD j.val = true ∧ (coverMask m).getLsbD j.val = true) ∧
  (∀ (d : DataWord) (j : Fin 32), j.val ∉ checkPositions → (enc d).getLsbD j.val = d.getLsbD (num j.val))

/-- R59: `POS` lists the 26 positions that are not check positions in ascending order, by the four formulas, `NUM` is its
inverse, and the masks of the table mark the four ranges of data bits and of positions. The spec marks the mask values as
its own derivation (R66). -/
def Obligations.DataPositionMap : Prop :=
  (List.range 26).map pos = (List.range 32).filter (fun j => decide (j ∉ checkPositions)) ∧
  (pos 0 = 3 ∧ (∀ n : Fin 26, 1 ≤ n.val ∧ n.val ≤ 3 → pos n.val = n.val + 4) ∧
    (∀ n : Fin 26, 4 ≤ n.val ∧ n.val ≤ 10 → pos n.val = n.val + 5) ∧
    (∀ n : Fin 26, 11 ≤ n.val → pos n.val = n.val + 6)) ∧
  (∀ n : Fin 26, num (pos n.val) = n.val) ∧
  (∀ j : Fin 32, j.val ∉ checkPositions → pos (num j.val) = j.val) ∧
  (∀ n : Fin 32,
    dataMaskA.getLsbD n.val = decide (n.val = 0) ∧
    dataMaskB.getLsbD n.val = decide (1 ≤ n.val ∧ n.val ≤ 3) ∧
    dataMaskC.getLsbD n.val = decide (4 ≤ n.val ∧ n.val ≤ 10) ∧
    dataMaskD.getLsbD n.val = decide (11 ≤ n.val ∧ n.val ≤ 25)) ∧
  (∀ j : Fin 32,
    posMaskA.getLsbD j.val = decide (j.val = 3) ∧
    posMaskB.getLsbD j.val = decide (5 ≤ j.val ∧ j.val ≤ 7) ∧
    posMaskC.getLsbD j.val = decide (9 ≤ j.val ∧ j.val ≤ 15) ∧
    posMaskD.getLsbD j.val = decide (17 ≤ j.val))

/-- R66: the formulas of `SCATTER` and `GATHER`; `GATHER` undoes `SCATTER`, `SCATTER` of `GATHER` keeps exactly the data
positions, and the masks cover the 26 data bits, each once, and the 26 data positions. The spec marks the mask values as
its own derivation from R59. -/
def Obligations.ScatterAndGatherAreInverse : Prop :=
  (∀ d : DataWord, scatter d =
    ((d.setWidth 32 &&& dataMaskA) <<< 3 ||| (d.setWidth 32 &&& dataMaskB) <<< 4 ||| (d.setWidth 32 &&& dataMaskC) <<< 5 |||
      (d.setWidth 32 &&& dataMaskD) <<< 6)) ∧
  (∀ w : Word32, gather w =
    ((w &&& posMaskA) >>> 3 ||| (w &&& posMaskB) >>> 4 ||| (w &&& posMaskC) >>> 5 ||| (w &&& posMaskD) >>> 6).extractLsb'
      0 26) ∧
  (popcount dataMaskA + popcount dataMaskB + popcount dataMaskC + popcount dataMaskD = 26) ∧
  (dataMaskA ||| dataMaskB ||| dataMaskC ||| dataMaskD = 0x3FFFFFF#32) ∧
  (posMaskA ||| posMaskB ||| posMaskC ||| posMaskD = 0xFFFEFEE8#32) ∧
  (~~~ 0xFFFEFEE8#32 = (0x00010117#32 : Word32)) ∧
  (∀ d : DataWord, scatter d &&& 0x00010117#32 = 0#32) ∧
  (∀ d : DataWord, gather (scatter d) = d) ∧
  (∀ w : Word32, scatter (gather w) = w &&& 0xFFFEFEE8#32)

/-- R62: a valid codeword is one whose six checks are zero; equally, whose five parity bits and bit 0 are each the XOR of
the other members of their sets; and the valid codewords are the encoder outputs, one for each data word. -/
def Obligations.ValidCodewordMeaning : Prop :=
  (∀ d : DataWord, validCodeword (enc d)) ∧
  ∀ w : Word32,
    (validCodeword w ↔ (∀ k : Fin 5, par (w &&& coverMask k) = false) ∧ par w = false) ∧
    (validCodeword w ↔
      (∀ k : Fin 5, w.getLsbD (2 ^ k.val) = par (w &&& coverMask k &&& ~~~ oneHot (2 ^ k.val))) ∧
      w.getLsbD 0 = par (w &&& ~~~ oneHot 0)) ∧
    (validCodeword w ↔ ∃! d : DataWord, enc d = w)

/-- R63: bit `k` of the syndrome is the check of group `k`, the syndrome of a codeword is 0, and the syndrome of a codeword
with one flipped position is the number of that position, with no offset. -/
def Obligations.SyndromeNamesFlippedPosition : Prop :=
  (∀ (c : Word32) (k : Fin 5), (decSyn c).getLsbD k.val = par (c &&& coverMask k)) ∧
  (∀ w : Word32, validCodeword w → decSyn w = 0#5) ∧
  (∀ (w : Word32) (j : Fin 32), validCodeword w → (decSyn (flip w j.val)).toNat = j.val)

/-- R64: the two bits of `dec_status`, and the condition and the meaning of each of its four codes; with R75, `CHK` is 1
exactly for a valid codeword. -/
def Obligations.StatusCodesMeaning : Prop :=
  (statusCode .clean = 0b00#2 ∧ statusCode .p0Error = 0b01#2 ∧ statusCode .corrected = 0b11#2 ∧
    statusCode .doubleError = 0b10#2) ∧
  ∀ c : Word32,
    (decStatus c).getLsbD 1 = decide (decSyn c ≠ 0#5) ∧
    (decStatus c).getLsbD 0 = decPar c ∧
    (decStatus c = statusCode .clean ↔ validCodeword c) ∧
    (decStatus c = statusCode .p0Error ↔ decSyn c = 0#5 ∧ decPar c = true) ∧
    (decStatus c = statusCode .corrected ↔ decSyn c ≠ 0#5 ∧ decPar c = true) ∧
    (decStatus c = statusCode .doubleError ↔ decSyn c ≠ 0#5 ∧ decPar c = false) ∧
    (decDed c = true ↔ decStatus c = statusCode .doubleError) ∧
    (chk c = true ↔ decStatus c = 0b00#2) ∧
    (chk c = true ↔ validCodeword c)

/-! ### PAR -/

/-- R86: `PAR` is the XOR of the 32 bits, which is the number of ones modulo 2. -/
def Obligations.ParityIsXorReduction : Prop :=
  ∀ v : Word32,
    par v = (v.getLsbD 0 ^^ v.getLsbD 1 ^^ v.getLsbD 2 ^^ v.getLsbD 3 ^^ v.getLsbD 4 ^^ v.getLsbD 5 ^^ v.getLsbD 6 ^^
      v.getLsbD 7 ^^ v.getLsbD 8 ^^ v.getLsbD 9 ^^ v.getLsbD 10 ^^ v.getLsbD 11 ^^ v.getLsbD 12 ^^ v.getLsbD 13 ^^
      v.getLsbD 14 ^^ v.getLsbD 15 ^^ v.getLsbD 16 ^^ v.getLsbD 17 ^^ v.getLsbD 18 ^^ v.getLsbD 19 ^^ v.getLsbD 20 ^^
      v.getLsbD 21 ^^ v.getLsbD 22 ^^ v.getLsbD 23 ^^ v.getLsbD 24 ^^ v.getLsbD 25 ^^ v.getLsbD 26 ^^ v.getLsbD 27 ^^
      v.getLsbD 28 ^^ v.getLsbD 29 ^^ v.getLsbD 30 ^^ v.getLsbD 31) ∧
    (par v).toNat = popcount v % 2

/-- R148 (and the algorithm of R87): the fold computes the XOR reduction of every 32-bit value. -/
def Obligations.ParityFoldIsXorReduction : Prop :=
  ∀ v : Word32,
    parFold v = xorReduce v ∧
    (parFold v).toNat = popcount v % 2 ∧
    ∀ t : Fin 4, (foldBy4 v).getLsbD t.val =
      (v.getLsbD t.val ^^ v.getLsbD (t.val + 4) ^^ v.getLsbD (t.val + 8) ^^ v.getLsbD (t.val + 12) ^^
        v.getLsbD (t.val + 16) ^^ v.getLsbD (t.val + 20) ^^ v.getLsbD (t.val + 24) ^^ v.getLsbD (t.val + 28))

/-- R88: bit `n` of the nibble table is the parity of the nibble `n`, and the table reads the same from either end. The
spec marks the literal as its own derivation from the document's sentence. -/
def Obligations.NibbleTableEntries : Prop :=
  nibbleParity = 0x6996#16 ∧
  ∀ n : Fin 16, nibbleParity.getLsbD n.val = xorReduce (BitVec.ofNat 4 n.val) ∧
    nibbleParity.getLsbD n.val = nibbleParity.getLsbD (15 - n.val)

/-- The laws of `PAR` that the other files use (the spec derives them): linearity, disjoint union, masking, single bit. -/
def Obligations.ParityLaws : Prop :=
  (∀ a b : Word32, par (a ^^^ b) = (par a ^^ par b)) ∧
  (∀ a b : Word32, a &&& b = 0#32 → par (a ||| b) = (par a ^^ par b)) ∧
  (∀ a b m : Word32, par ((a ^^^ b) &&& m) = (par (a &&& m) ^^ par (b &&& m))) ∧
  (∀ (j : Fin 32) (m : Word32), par (oneHot j.val &&& m) = m.getLsbD j.val)

/-- `PAR` completes in every state, with the operand on `par_in` (the model's choice, notes/assumptions/3.md), the response
`ParityBit` of the XOR reduction, and everything else unchanged. -/
def Obligations.ParAnswersAndFrame : Prop :=
  ∀ (v : Word32) (s : State), ∃ t : State,
    exec (.par v) s = .next t ∧
    t.responses = s.responses ++ [.parityBit (xorReduce v)] ∧
    t.parIn = some v ∧ t.parOut = some (par v) ∧
    t.encData = s.encData ∧ t.decCode = s.decCode ∧ t.requests = s.requests ∧
    t.encCode = s.encCode ∧ t.decDataOut = s.decDataOut ∧ t.decDedOut = s.decDedOut ∧ t.decSynOut = s.decSynOut ∧
    t.decParOut = s.decParOut ∧ t.decStatusOut = s.decStatusOut

/-! ### ENC -/

/-- R96: step 1 of the encoder puts data bit `n` at position `POS(n)` and zero at the six check positions. -/
def Obligations.ScatterPlacesDataBits : Prop :=
  ∀ d : DataWord,
    (∀ n : Fin 26, (scatter d).getLsbD (pos n.val) = d.getLsbD n.val) ∧
    (∀ j ∈ checkPositions, (scatter d).getLsbD j = false)

/-- R97: step 2 computes the check of each group of the scattered word and places it at position `2^k`, so that the 16 bits
of the group XOR to zero; no other position changes. -/
def Obligations.HammingParityBits : Prop :=
  ∀ d : DataWord,
    (∀ k : Fin 5, encParity d k = par (scatter d &&& coverMask k)) ∧
    encHp d = (scatter d ||| bitAt (encParity d 0) 1 ||| bitAt (encParity d 1) 2 ||| bitAt (encParity d 2) 4 |||
      bitAt (encParity d 3) 8 ||| bitAt (encParity d 4) 16) ∧
    (∀ k : Fin 5, (encHp d).getLsbD (2 ^ k.val) = encParity d k ∧ par (encHp d &&& coverMask k) = false) ∧
    (∀ j : Fin 32, (∀ k : Fin 5, j.val ≠ 2 ^ k.val) → (encHp d).getLsbD j.val = (scatter d).getLsbD j.val)

/-- The five parity bits may be placed one after another in any order (the spec derives it): the word is `hp`. -/
def Obligations.ParityPlacementOrderIrrelevant : Prop :=
  ∀ (d : DataWord) (order : List (Fin 5)), order.Perm [0, 1, 2, 3, 4] → order.foldl placeParity (scatter d) = encHp d

/-- R99: step 3 computes the parity of `hp` with bit 0 still zero, which is the XOR of its bits 31 to 1, and places it at
bit 0; the word then has an even number of ones. -/
def Obligations.OverallParityBit : Prop :=
  ∀ d : DataWord,
    (encHp d).getLsbD 0 = false ∧
    encP0 d = par (encHp d) ∧
    encP0 d = xorReduce ((encHp d).extractLsb' 1 31) ∧
    enc d = (encHp d ||| bitAt (encP0 d) 0) ∧
    (enc d).getLsbD 0 = encP0 d ∧
    popcount (enc d) % 2 = 0

/-- R100: `ENC` is the pseudocode of the rule, and it is injective. -/
def Obligations.EncoderPseudocode : Prop :=
  (∀ d : DataWord,
    let z : Word32 := d.setWidth 32
    let h := (z &&& 0x0000001#32) <<< 3 ||| (z &&& 0x000000E#32) <<< 4 ||| (z &&& 0x00007F0#32) <<< 5 |||
      (z &&& 0x3FFF800#32) <<< 6
    let q0 := par (h &&& 0xAAAAAAAA#32)
    let q1 := par (h &&& 0xCCCCCCCC#32)
    let q2 := par (h &&& 0xF0F0F0F0#32)
    let q3 := par (h &&& 0xFF00FF00#32)
    let q4 := par (h &&& 0xFFFF0000#32)
    let hp := h ||| bitAt q0 1 ||| bitAt q1 2 ||| bitAt q2 4 ||| bitAt q3 8 ||| bitAt q4 16
    let p0 := par hp
    enc d = (hp ||| bitAt p0 0)) ∧
  (∀ a b : DataWord, enc a = enc b → a = b)

/-- The output of the encoder satisfies the codeword invariant (R95) and carries its data word: `GATHER` undoes `ENC`, which
the spec marks as its own derivation (R158, from R66). -/
def Obligations.EncoderOutputIsValid : Prop :=
  ∀ d : DataWord, validCodeword (enc d) ∧ gather (enc d) = d

/-- The 32 output bits of `ENC` as XORs of data bits, by the masks that the spec derives. -/
def Obligations.EncoderXorEquations : Prop :=
  ∀ d : DataWord,
    (enc d).getLsbD 1 = xorReduce (d &&& 0x2AAAD5B#26) ∧
    (enc d).getLsbD 2 = xorReduce (d &&& 0x333366D#26) ∧
    (enc d).getLsbD 4 = xorReduce (d &&& 0x3C3C78E#26) ∧
    (enc d).getLsbD 8 = xorReduce (d &&& 0x3FC07F0#26) ∧
    (enc d).getLsbD 16 = xorReduce (d &&& 0x3FFF800#26) ∧
    (enc d).getLsbD 0 = xorReduce (d &&& 0x1A65CB7#26) ∧
    (∀ n : Fin 26, (enc d).getLsbD (pos n.val) = d.getLsbD n.val)

/-- `ENC` is linear, with the 26 generator rows that the spec derives. -/
def Obligations.EncoderLinearWithGeneratorRows : Prop :=
  (∀ a b : DataWord, enc (a ^^^ b) = enc a ^^^ enc b) ∧
  enc 0#26 = 0#32 ∧
  (List.range 26).map (fun n => enc (1#26 <<< n)) =
    [0x0000000F#32, 0x00000033#32, 0x00000055#32, 0x00000096#32, 0x00000303#32, 0x00000505#32, 0x00000906#32,
     0x00001111#32, 0x00002112#32, 0x00004114#32, 0x00008117#32, 0x00030003#32, 0x00050005#32, 0x00090006#32,
     0x00110011#32, 0x00210012#32, 0x00410014#32, 0x00810017#32, 0x01010101#32, 0x02010102#32, 0x04010104#32,
     0x08010107#32, 0x10010110#32, 0x20010113#32, 0x40010115#32, 0x80010116#32]

/-- `ENC` completes in every state, with the operand on `enc_data` (the model's choice, notes/assumptions/3.md), the response
`Codeword(ENC(d))`, and everything else unchanged. -/
def Obligations.EncAnswersAndFrame : Prop :=
  ∀ (d : DataWord) (s : State), ∃ t : State,
    exec (.enc d) s = .next t ∧
    t.responses = s.responses ++ [.codeword (enc d)] ∧
    t.encData = some d ∧ t.encCode = some (enc d) ∧
    t.parIn = s.parIn ∧ t.decCode = s.decCode ∧ t.requests = s.requests ∧
    t.parOut = s.parOut ∧ t.decDataOut = s.decDataOut ∧ t.decDedOut = s.decDedOut ∧ t.decSynOut = s.decSynOut ∧
    t.decParOut = s.decParOut ∧ t.decStatusOut = s.decStatusOut

/-! ### DEC -/

/-- R116: the overall parity of the received word; even for every valid codeword, odd exactly when an odd number of positions
was flipped. -/
def Obligations.OverallParityCheck : Prop :=
  (∀ c : Word32, decPar c = par c ∧ (decPar c = true ↔ popcount c % 2 = 1)) ∧
  (∀ w err : Word32, validCodeword w → decPar w = false ∧ (decPar (w ^^^ err) = true ↔ popcount err % 2 = 1))

/-- R117: bit `k` of the syndrome is the check of group `k`, and the syndrome does not depend on position 0. -/
def Obligations.SyndromeGenerator : Prop :=
  (∀ (c : Word32) (k : Fin 5), (decSyn c).getLsbD k.val = par (c &&& coverMask k)) ∧
  (∀ c : Word32, decSyn (c ^^^ oneHot 0) = decSyn c)

/-- The syndrome and the overall parity are linear and depend on the error pattern only (the spec derives it): the syndrome
is the XOR of the flipped indices, the parity the number of flips modulo 2. -/
def Obligations.SyndromeOfErrorPattern : Prop :=
  (∀ a b : Word32, decSyn (a ^^^ b) = decSyn a ^^^ decSyn b ∧ decPar (a ^^^ b) = (decPar a ^^ decPar b)) ∧
  (∀ w err : Word32, validCodeword w →
    decSyn (w ^^^ err) = indexXor err ∧ (decPar (w ^^^ err)).toNat = popcount err % 2) ∧
  (∀ j : Fin 32, decSyn (oneHot j.val) = BitVec.ofNat 5 j.val ∧ decPar (oneHot j.val) = true)

/-- R119: the decision table, row by row, with the signals of each row. -/
def Obligations.DecisionTable : Prop :=
  ∀ c : Word32,
    (decSyn c = 0#5 ∧ decPar c = false →
      decNz c = false ∧ decFix c = false ∧ decDed c = false ∧ decStatus c = 0b00#2 ∧ dec c = .data (gather c)) ∧
    (decSyn c = 0#5 ∧ decPar c = true →
      decNz c = false ∧ decFix c = false ∧ decDed c = false ∧ decStatus c = 0b01#2 ∧ dec c = .data (gather c)) ∧
    (decSyn c ≠ 0#5 ∧ decPar c = true →
      decNz c = true ∧ decFix c = true ∧ decDed c = false ∧ decStatus c = 0b11#2 ∧
        dec c = .data (gather (c ^^^ oneHot (decSyn c).toNat))) ∧
    (decSyn c ≠ 0#5 ∧ decPar c = false →
      decNz c = true ∧ decFix c = false ∧ decDed c = true ∧ decStatus c = 0b10#2 ∧ dec c = .doubleErrorDetected)

/-- R120: with a zero syndrome the data is extracted as received, whatever the parity; with even parity the word is a valid
codeword, with odd parity it is one with position 0 inverted. -/
def Obligations.ZeroSyndromeArm : Prop :=
  ∀ c : Word32, decSyn c = 0#5 →
    dec c = .data (gather c) ∧ corrMask c = 0#32 ∧
    (decPar c = false → validCodeword c) ∧
    (decPar c = true → validCodeword (c ^^^ oneHot 0))

/-- R122: the double error is raised exactly for a nonzero syndrome with even parity; nothing is flipped, no data is returned,
and the result is no data value. -/
def Obligations.DoubleErrorArm : Prop :=
  ∀ c : Word32,
    (dec c = .doubleErrorDetected ↔ decSyn c ≠ 0#5 ∧ decPar c = false) ∧
    (decDed c = true ↔ dec c = .doubleErrorDetected) ∧
    (dec c = .doubleErrorDetected → corrMask c = 0#32 ∧ corrected c = c ∧ ∀ x : DataWord, dec c ≠ .data x)

/-- R123: the correction mask is zero or has a single one, at a position from 1 to 31 that the syndrome names; the corrected
word is the received word XOR the mask. -/
def Obligations.CorrectionMask : Prop :=
  ∀ c : Word32,
    corrected c = c ^^^ corrMask c ∧
    (corrMask c).getLsbD 0 = false ∧
    (decFix c = false → corrMask c = 0#32) ∧
    (decFix c = true → corrMask c = oneHot (decSyn c).toNat ∧ popcount (corrMask c) = 1 ∧
      1 ≤ (decSyn c).toNat ∧ (decSyn c).toNat ≤ 31)

/-- A correction at a parity position changes no data and has status `11` (the spec derives it), and position 0 is never
repaired. -/
def Obligations.CheckPositionsCarryNoData : Prop :=
  ∀ c : Word32,
    (corrected c).getLsbD 0 = c.getLsbD 0 ∧
    (decSyn c = 0#5 → corrected c = c) ∧
    (∀ k : Fin 5, decFix c = true → (decSyn c).toNat = 2 ^ k.val →
      dec c = .data (gather c) ∧ decStatus c = statusCode .corrected)

/-- R126: the extracted data word is `GATHER` of the corrected word, bit `n` from position `POS(n)`, and no check position is
read. -/
def Obligations.Extraction : Prop :=
  (∀ c : Word32, extracted c = gather (corrected c)) ∧
  (∀ (c : Word32) (n : Fin 26), (extracted c).getLsbD n.val = (corrected c).getLsbD (pos n.val)) ∧
  (∀ w w' : Word32, (∀ j : Fin 32, j.val ∉ checkPositions → w.getLsbD j.val = w'.getLsbD j.val) → gather w = gather w')

/-- Each data output bit is one received bit, inverted when the odd-parity syndrome points at it (the spec derives it). -/
def Obligations.DataOutputBitByBit : Prop :=
  ∀ (c : Word32) (n : Fin 26),
    (extracted c).getLsbD n.val = (c.getLsbD (pos n.val) ^^ (decPar c && decide ((decSyn c).toNat = pos n.val)))

/-- R128: `DEC` is the pseudocode of the rule. -/
def Obligations.DecoderPseudocode : Prop :=
  ∀ c : Word32,
    let p := par c
    let i0 := par (c &&& 0xAAAAAAAA#32)
    let i1 := par (c &&& 0xCCCCCCCC#32)
    let i2 := par (c &&& 0xF0F0F0F0#32)
    let i3 := par (c &&& 0xFF00FF00#32)
    let i4 := par (c &&& 0xFFFF0000#32)
    let i : Nat := 16 * i4.toNat + 8 * i3.toNat + 4 * i2.toNat + 2 * i1.toNat + i0.toNat
    let unscatter := fun cc : Word32 => ((cc &&& 0x00000008#32) >>> 3 ||| (cc &&& 0x000000E0#32) >>> 4 |||
      (cc &&& 0x0000FE00#32) >>> 5 ||| (cc &&& 0xFFFE0000#32) >>> 6).extractLsb' 0 26
    dec c =
      if i = 0 then .data (unscatter c)
      else if p = true then .data (unscatter (c ^^^ 1#32 <<< i))
      else .doubleErrorDetected

/-- R132: what `DEC` gives for any error pattern on a valid codeword, by the XOR `s` of the flipped indices and the number `t`
of flips. -/
def Obligations.OutcomeOfAnyErrorPattern : Prop :=
  ∀ w err : Word32, validCodeword w →
    (popcount err % 2 = 1 ∧ indexXor err = 0#5 →
      decStatus (w ^^^ err) = statusCode .p0Error ∧ dec (w ^^^ err) = .data (gather (w ^^^ err))) ∧
    (popcount err % 2 = 1 ∧ indexXor err ≠ 0#5 →
      decStatus (w ^^^ err) = statusCode .corrected ∧
        dec (w ^^^ err) = .data (gather (w ^^^ err ^^^ oneHot (indexXor err).toNat))) ∧
    (popcount err % 2 = 0 ∧ indexXor err ≠ 0#5 →
      decStatus (w ^^^ err) = statusCode .doubleError ∧ dec (w ^^^ err) = .doubleErrorDetected) ∧
    (popcount err % 2 = 0 ∧ indexXor err = 0#5 →
      decStatus (w ^^^ err) = statusCode .clean ∧ dec (w ^^^ err) = .data (gather (w ^^^ err)) ∧
        validCodeword err ∧ (err ≠ 0#32 → 4 ≤ popcount err ∧ gather (w ^^^ err) ≠ gather w))

/-- `DEC` completes in every state, with the operand on `dec_code` (the model's choice, notes/assumptions/3.md), the response
of the decode result, and everything else unchanged. -/
def Obligations.DecAnswersAndFrame : Prop :=
  ∀ (c : Word32) (s : State), ∃ t : State,
    exec (.dec c) s = .next t ∧
    t.decCode = some c ∧
    (∀ x : DataWord, dec c = .data x → t.responses = s.responses ++ [.data x] ∧ t.decDedOut = some false ∧
      t.decDataOut = some x) ∧
    (dec c = .doubleErrorDetected → t.responses = s.responses ++ [.doubleErrorDetected] ∧ t.decDedOut = some true) ∧
    t.decSynOut = some (decSyn c) ∧ t.decParOut = some (decPar c) ∧ t.decStatusOut = some (decStatus c) ∧
    t.parIn = s.parIn ∧ t.encData = s.encData ∧ t.requests = s.requests ∧
    t.parOut = s.parOut ∧ t.encCode = s.encCode

/-! ### The laws of the code -/

/-- R145: decoding an encoded data word returns it, with a zero syndrome, even parity and status `00`. -/
def Obligations.RoundTripOfEveryDataWord : Prop :=
  ∀ d : DataWord,
    dec (enc d) = .data d ∧ decSyn (enc d) = 0#5 ∧ decPar (enc d) = false ∧ decStatus (enc d) = 0b00#2

/-- R146: a codeword with any one position flipped decodes to its data word; the syndrome is the position. -/
def Obligations.SingleFlipIsCorrected : Prop :=
  ∀ (d : DataWord) (j : Fin 32),
    dec (flip (enc d) j.val) = .data d ∧
    (decSyn (flip (enc d) j.val)).toNat = j.val ∧
    decPar (flip (enc d) j.val) = true ∧
    decStatus (flip (enc d) j.val) = if j.val = 0 then 0b01#2 else 0b11#2

/-- R147: a codeword with any two positions flipped gives the double-error result; the syndrome is the XOR of the two
indices, never zero. -/
def Obligations.DoubleFlipIsDetected : Prop :=
  ∀ (d : DataWord) (a b : Fin 32), a < b →
    dec (flip (flip (enc d) a.val) b.val) = .doubleErrorDetected ∧
    (∀ x : DataWord, dec (flip (flip (enc d) a.val) b.val) ≠ .data x) ∧
    decSyn (flip (flip (enc d) a.val) b.val) = BitVec.ofNat 5 (a.val ^^^ b.val) ∧
    a.val ^^^ b.val ≠ 0 ∧
    decPar (flip (flip (enc d) a.val) b.val) = false ∧
    decStatus (flip (flip (enc d) a.val) b.val) = 0b10#2

/-- R149: the concrete scenario of the document, with the codeword that the spec derives. -/
def Obligations.ConcreteScenario : Prop :=
  enc 12345678#26 = 0x2F1929E0#32 ∧ popcount (enc 12345678#26) = 14 ∧ par (enc 12345678#26) = false ∧
    dec (enc 12345678#26) = .data 12345678#26

/-- R150: the two boundary data words. -/
def Obligations.BoundaryDataWords : Prop :=
  enc 0#26 = 0x00000000#32 ∧ dec 0x00000000#32 = .data 0#26 ∧
    enc 0x3FFFFFF#26 = 0xFFFFFFFF#32 ∧ dec 0xFFFFFFFF#32 = .data 0x3FFFFFF#26

/-- The code is linear with minimum distance 4 (the spec derives it): the valid codewords are closed under XOR and contain
0, two different ones differ in at least four positions, and four occurs. -/
def Obligations.MinimumDistanceFour : Prop :=
  validCodeword 0#32 ∧
  (∀ a b : Word32, validCodeword a → validCodeword b → validCodeword (a ^^^ b)) ∧
  (∀ a b : Word32, validCodeword a → validCodeword b → a ≠ b → 4 ≤ popcount (a ^^^ b)) ∧
  popcount (enc 1#26) = 4

/-- The 64 classes (the spec derives them): each pair of syndrome and parity is taken by as many words as there are data
words, a word that raises no double error is within distance 1 of exactly one codeword, whose data `DEC` returns, and a word
that raises it is at distance 2 or more from every codeword. -/
def Obligations.SyndromeParityClasses : Prop :=
  (∀ (i : Syndrome) (p : Bool), ∃ f : DataWord → Word32, (∀ a b : DataWord, f a = f b → a = b) ∧
    ∀ c : Word32, (∃ d : DataWord, f d = c) ↔ decSyn c = i ∧ decPar c = p) ∧
  (∀ (c : Word32) (x : DataWord), dec c = .data x →
    popcount (c ^^^ enc x) ≤ 1 ∧ ∀ w : Word32, validCodeword w → popcount (c ^^^ w) ≤ 1 → w = enc x) ∧
  (∀ c w : Word32, dec c = .doubleErrorDetected → validCodeword w → 2 ≤ popcount (c ^^^ w))

/-- Encoding a decode result again (the spec derives it): a valid codeword, equal to the received word up to the position that
the status names, that decodes to the same data. -/
def Obligations.ReencodingADecodeResult : Prop :=
  ∀ (c : Word32) (x : DataWord), dec c = .data x →
    validCodeword (enc x) ∧
    (decStatus c = statusCode .clean → enc x = c) ∧
    (decStatus c = statusCode .p0Error → enc x = c ^^^ oneHot 0) ∧
    (decStatus c = statusCode .corrected → enc x = c ^^^ oneHot (decSyn c).toNat) ∧
    dec (enc x) = .data x

/-! ### The request envelope and the step -/

/-- R70 and R72: each operation select with its operand field decodes to its operation, every 32-bit value for `PAR` and
`DEC` and every 26-bit value for `ENC`, and the response is the value of the operation. -/
def Obligations.OpcodeMap : Prop :=
  (∀ v : Word32, decode (requestWord 0b00#2 v) = .ok (.par v) ∧ envelope (requestWord 0b00#2 v) = .parityBit (par v)) ∧
  (∀ d : DataWord, decode (requestWord 0b01#2 (d.setWidth 32)) = .ok (.enc d) ∧
    envelope (requestWord 0b01#2 (d.setWidth 32)) = .codeword (enc d)) ∧
  (∀ c : Word32, decode (requestWord 0b10#2 c) = .ok (.dec c) ∧
    (∀ x : DataWord, dec c = .data x → envelope (requestWord 0b10#2 c) = .data x) ∧
    (dec c = .doubleErrorDetected → envelope (requestWord 0b10#2 c) = .doubleErrorDetected)) ∧
  (∀ r : RequestWord,
    (r &&& 0x300000000#34 = 0x000000000#34 ↔ ∃ v : Word32, decode r = .ok (.par v)) ∧
    (r &&& 0x3FC000000#34 = 0x100000000#34 ↔ ∃ d : DataWord, decode r = .ok (.enc d)) ∧
    (r &&& 0x300000000#34 = 0x200000000#34 ↔ ∃ c : Word32, decode r = .ok (.dec c)))

/-- R71: a reserved operation select and an out-of-range encode are answered by their rejections; nothing is evaluated, no
input port changes, and the requests behind it go on (taking the request is the model's choice, notes/assumptions/6.md). -/
def Obligations.IllegalRequestsAreRejected : Prop :=
  ∀ (a : Word32) (rest : List RequestWord) (s : State),
    (s.requests = requestWord 0b11#2 a :: rest →
      step s = .next { s with requests := rest, responses := s.responses ++ [.rejected .reservedOp] }) ∧
    (a.extractLsb' 26 6 ≠ 0#6 → s.requests = requestWord 0b01#2 a :: rest →
      step s = .next { s with requests := rest, responses := s.responses ++ [.rejected .outOfRange] })

/-- R151: an `ENC` request with a data value of `2^26` or more is rejected as out of range, and `2^26 - 1` is accepted. -/
def Obligations.OutOfRangeDataIsRejected : Prop :=
  (∀ n : Nat, 2 ^ 26 ≤ n → n < 2 ^ 32 →
    envelope (requestWord 0b01#2 (BitVec.ofNat 32 n)) = .rejected .outOfRange) ∧
  envelope (requestWord 0b01#2 0x04000000#32) = .rejected .outOfRange ∧
  envelope (requestWord 0b01#2 0xFFFFFFFF#32) = .rejected .outOfRange ∧
  envelope (requestWord 0b01#2 0x03FFFFFF#32) = .codeword 0xFFFFFFFF#32

/-- R173: the checks by number: `op = 3` is reserved, `op = 1` with an operand of `2^26` or more is out of range, every other
request is evaluated; no request meets two of the conditions; and one evaluation of `DEC` has exactly one status. -/
def Obligations.RequestChecks : Prop :=
  (∀ c : Word32, ∃! st : Status, decStatus c = statusCode st) ∧
  ∀ r : RequestWord,
    (decode r = .error .reservedOp ↔ r.toNat / 2 ^ 32 = 3) ∧
    (decode r = .error .outOfRange ↔ r.toNat / 2 ^ 32 = 1 ∧ 2 ^ 26 ≤ r.toNat % 2 ^ 32) ∧
    ((∃ i : Instr, decode r = .ok i) ↔ RequestWord.wellFormed r = true) ∧
    ((∃ i : Instr, decode r = .ok i ∧ envelope r = responseOf i) ↔ ∀ why : RejectReason, envelope r ≠ .rejected why)

/-- Decode and encode agree: every well-formed instruction is read back from its word, every accepted word is the word of
the instruction read from it, and it belongs to the one row of the opcode map with that instruction's mnemonic. -/
def Obligations.DecodeAndEncodeAgree : Prop :=
  (∀ i : Instr, i.wellFormed = true → decode (encode i) = .ok i) ∧
  (∀ (r : RequestWord) (i : Instr), decode r = .ok i → encode i = r) ∧
  (∀ (r : RequestWord) (i : Instr), decode r = .ok i →
    ∀ row ∈ opcodeTable, row.matchesWord r = true ↔ row.mnemonic = i.mnemonic) ∧
  (∀ r : RequestWord, (∃ row ∈ opcodeTable, row.matchesWord r = true) → ∃ i : Instr, decode r = .ok i)

/-- A few request words written out from the vectors of the spec decode to the operations they stand for. -/
def Obligations.WrittenOutRequestsDecode : Prop :=
  decode 0x012345678#34 = .ok (.par 0x12345678#32) ∧
  decode 0x100BC614E#34 = .ok (.enc 12345678#26) ∧
  decode 0x22F3929E0#34 = .ok (.dec 0x2F3929E0#32) ∧
  decode 0x104000000#34 = .error .outOfRange ∧
  decode 0x300000000#34 = .error .reservedOp

/-- R69 with the codes of R166: the flat response word of each kind of response; under a double error the value field is the
free value `DED_DATA`, whatever it is. -/
def Obligations.FlatResponseWord : Prop :=
  ∀ r : RequestWord,
    (∀ b : Bool, envelope r = .parityBit b → (responseWord r).toNat = b.toNat) ∧
    (∀ w : Word32, envelope r = .codeword w → (responseWord r).toNat = w.toNat) ∧
    (∀ x : DataWord, envelope r = .data x → (responseWord r).toNat = x.toNat) ∧
    (envelope r = .doubleErrorDetected →
      (responseWord r).toNat = 1 * 2 ^ 32 + (Config.dedData (reqArg r)).toNat) ∧
    (envelope r = .rejected .outOfRange → (responseWord r).toNat = 2 * 2 ^ 32) ∧
    (envelope r = .rejected .reservedOp → (responseWord r).toNat = 3 * 2 ^ 32)

/-- A step runs the decoded request: where the oldest request decodes to an instruction, a step is `exec` of it with that
request taken (oldest first and one a step are the model's choice, notes/assumptions/1.md); with no request the state stays
(the model's choice, notes/assumptions/5.md); and `withFetchWord` on the word of an instruction puts exactly that request
before those that wait and changes nothing else (the model's choice, notes/assumptions/5.md, the word as one 34-bit number
notes/assumptions/7.md). -/
def Obligations.StepRunsTheDecodedRequest : Prop :=
  (∀ (s : State) (r : RequestWord) (rest : List RequestWord) (i : Instr),
    s.requests = r :: rest → decode r = .ok i → step s = exec i { s with requests := rest }) ∧
  (∀ s : State, s.requests = [] → step s = .next s) ∧
  (∀ (s : State) (i : Instr),
    s.withFetchWord 40 (encode i).toNat = { s with requests := encode i :: s.requests }) ∧
  (∀ (s : State) (i : Instr), step (s.withFetchWord 40 (encode i).toNat) = exec i s)

/-- R53: a step is always enabled and always returns: no state and no request gives a fault or a refusal, and one request is
answered by one response (the queues are the model's choice, notes/assumptions/1.md and 5.md). -/
def Obligations.EveryStepReturns : Prop :=
  ∀ s : State, ∃ t : State, step s = .next t ∧ t.requests = s.requests.tail ∧ ∃ l : List Response,
    t.responses = s.responses ++ l ∧ l.length = min 1 s.requests.length

/-- R46: over any run, each response is the function `envelope` of its own request alone, whatever the state, the order and
the requests around it (the queues are the model's choice, notes/assumptions/1.md). -/
def Obligations.EachResponseDependsOnItsRequestAlone : Prop :=
  ∀ (k : Nat) (s : State), ∃ t : State,
    Sys2Proof.core.run k s = .next t ∧
    t.responses = s.responses ++ (s.requests.take k).map envelope ∧
    t.requests = s.requests.drop k

/-! ### The ports and reset -/

/-- R130: the decoder outputs as functions of the word on `dec_code`; the data wires carry the free value `DED_DATA` while
`dec_ded = 1`, whatever it is. -/
def Obligations.DecoderPorts : Prop :=
  ∀ (s : State) (c : Word32), s.decCode = some c →
    s.decParOut = some (par c) ∧
    s.decSynOut = some (decSyn c) ∧
    (∃ st : BitVec 2, s.decStatusOut = some st ∧ st.getLsbD 1 = decide (decSyn c ≠ 0#5) ∧ st.getLsbD 0 = par c) ∧
    s.decDedOut = some (decide (decSyn c ≠ 0#5) && !par c) ∧
    (s.decDedOut = some false → s.decDataOut = some (gather (corrected c))) ∧
    (s.decDedOut = some true → s.decDataOut = some (Config.dedData c))

/-- R167: `dec_ded` is a level: it is 1 while a double-error word is on `dec_code` and 0 again as soon as a word of another
class is. -/
def Obligations.DoubleErrorSignalIsALevel : Prop :=
  ∀ (s : State) (c c' : Word32),
    decSyn c ≠ 0#5 → decPar c = false → ¬ (decSyn c' ≠ 0#5 ∧ decPar c' = false) →
    (s.driveDec c).decDedOut = some true ∧ ((s.driveDec c).driveDec c').decDedOut = some false

/-- An output has a value exactly when the input of its unit is driven, and no unit depends on what the others carry: driving
an input gives the outputs of its unit their values and releasing it takes them away, and either leaves the outputs of the
two other units as they are. This is R186 without the settling time (notes/assumptions/8.md) and for whole ports
(notes/assumptions/9.md). -/
def Obligations.OutputsDefinedWhenInputDriven : Prop :=
  (∀ s : State,
    (s.parOut.isSome ↔ s.parIn.isSome) ∧ (s.encCode.isSome ↔ s.encData.isSome) ∧
    (s.decDataOut.isSome ↔ s.decCode.isSome) ∧ (s.decDedOut.isSome ↔ s.decCode.isSome) ∧
    (s.decSynOut.isSome ↔ s.decCode.isSome) ∧ (s.decParOut.isSome ↔ s.decCode.isSome) ∧
    (s.decStatusOut.isSome ↔ s.decCode.isSome)) ∧
  (∀ s : State,
    s.releasePar.parOut = none ∧ s.releaseEnc.encCode = none ∧ s.releaseDec.decDataOut = none ∧
    s.releaseDec.decDedOut = none ∧ s.releaseDec.decSynOut = none ∧ s.releaseDec.decParOut = none ∧
    s.releaseDec.decStatusOut = none) ∧
  (∀ (s : State) (v : Word32) (d : DataWord) (c : Word32),
    (s.drivePar v).parOut = some (par v) ∧ (s.driveEnc d).encCode = some (enc d) ∧
    (s.driveDec c).decDataOut = some (decData c) ∧ (s.driveDec c).decDedOut = some (decDed c) ∧
    (s.driveDec c).decSynOut = some (decSyn c) ∧ (s.driveDec c).decParOut = some (decPar c) ∧
    (s.driveDec c).decStatusOut = some (decStatus c)) ∧
  (∀ (s : State) (d : DataWord) (c : Word32), ∀ t ∈ [s.releaseEnc, s.releaseDec, s.driveEnc d, s.driveDec c],
    t.parOut = s.parOut) ∧
  (∀ (s : State) (v c : Word32), ∀ t ∈ [s.releasePar, s.releaseDec, s.drivePar v, s.driveDec c],
    t.encCode = s.encCode) ∧
  (∀ (s : State) (v : Word32) (d : DataWord), ∀ t ∈ [s.releasePar, s.releaseEnc, s.drivePar v, s.driveEnc d],
    t.decDataOut = s.decDataOut ∧ t.decDedOut = s.decDedOut ∧ t.decSynOut = s.decSynOut ∧
    t.decParOut = s.decParOut ∧ t.decStatusOut = s.decStatusOut)

/-- R52: the three units have disjoint ports: driven together on one instance, in any of the six orders, each gives on all its
outputs the function of its own operand. -/
def Obligations.UnitsDoNotInterfere : Prop :=
  ∀ (s : State) (v : Word32) (d : DataWord) (c : Word32),
    ∀ t ∈ [((s.drivePar v).driveEnc d).driveDec c, ((s.drivePar v).driveDec c).driveEnc d,
        ((s.driveEnc d).drivePar v).driveDec c, ((s.driveEnc d).driveDec c).drivePar v,
        ((s.driveDec c).drivePar v).driveEnc d, ((s.driveDec c).driveEnc d).drivePar v],
      t = { s with parIn := some v, encData := some d, decCode := some c } ∧
      t.parOut = some (par v) ∧ t.encCode = some (enc d) ∧
      t.decDataOut = some (decData c) ∧ t.decDedOut = some (decDed c) ∧ t.decSynOut = some (decSyn c) ∧
      t.decParOut = some (decPar c) ∧ t.decStatusOut = some (decStatus c)

/-- After reset no input is driven, so none of the seven outputs has a value, no request waits and no response was returned
(the model's choice, notes/assumptions/2.md), and every codeword returned so far is valid. -/
def Obligations.ResetHoldsNothing : Prop :=
  State.reset.parIn = none ∧ State.reset.encData = none ∧ State.reset.decCode = none ∧
  State.reset.requests = [] ∧ State.reset.responses = [] ∧
  State.reset.parOut = none ∧ State.reset.encCode = none ∧ State.reset.decDataOut = none ∧
  State.reset.decDedOut = none ∧ State.reset.decSynOut = none ∧ State.reset.decParOut = none ∧
  State.reset.decStatusOut = none ∧
  State.reset.codewordsValid

/-- Every step keeps the invariant that all codewords returned so far are valid, from every state that meets it. -/
def Obligations.StepKeepsReturnedCodewordsValid : Prop :=
  ∀ s t : State, s.codewordsValid → step s = .next t → t.codewordsValid
end

