-- ==== Sys2Proof/Laws/Operands.lean ====
section
/-!
SUPPORT. The small lemmas of the operand functions: the loops of `xorBits`, `countBits` and `xorIndices` round by round,
what XOR does to each, and the bits of the words that the units put together.
-/

namespace Sys2Proof.Machine

@[simp] theorem xorBits_zero_rounds {width : Nat} (v : BitVec width) : xorBits v 0 = false := rfl

theorem xorBits_next_round {width : Nat} (v : BitVec width) (n : Nat) :
    xorBits v (n + 1) = (xorBits v n ^^ v.getLsbD n) := rfl

/-- The loop is linear after any number of rounds. -/
theorem xorBits_of_xor {width : Nat} (a b : BitVec width) (n : Nat) :
    xorBits (a ^^^ b) n = (xorBits a n ^^ xorBits b n) := by
  induction n with
  | zero => rfl
  | succ n ih =>
    simp only [xorBits_next_round, ih, BitVec.getLsbD_xor]
    cases xorBits a n <;> cases xorBits b n <;> cases a.getLsbD n <;> cases b.getLsbD n <;> rfl

/-- The loop sees the first `n` bits only. -/
theorem xorBits_of_agreement {width width' : Nat} (a : BitVec width) (b : BitVec width') (n : Nat)
    (h : ∀ j < n, a.getLsbD j = b.getLsbD j) : xorBits a n = xorBits b n := by
  induction n with
  | zero => rfl
  | succ n ih =>
    rw [xorBits_next_round, xorBits_next_round, ih fun j hj => h j (Nat.lt_succ_of_lt hj), h n (Nat.lt_succ_self n)]

@[simp] theorem countBits_zero_rounds {width : Nat} (v : BitVec width) : countBits v 0 = 0 := rfl

theorem countBits_next_round {width : Nat} (v : BitVec width) (n : Nat) :
    countBits v (n + 1) = countBits v n + (v.getLsbD n).toNat := rfl

@[simp] theorem xorIndices_zero_rounds (err : Word32) : xorIndices err 0 = 0#5 := rfl

theorem xorIndices_next_round (err : Word32) (n : Nat) :
    xorIndices err (n + 1) = xorIndices err n ^^^ (if err.getLsbD n then BitVec.ofNat 5 n else 0#5) := rfl

/-- A single placed bit is seen at its own position only. -/
theorem bitAt_bit (b : Bool) (p j : Nat) : (bitAt b p).getLsbD j = (b && decide (j = p) && decide (j < 32)) := by
  rcases Nat.lt_trichotomy j p with h | rfl | h
  · simp [bitAt, BitVec.getLsbD_shiftLeft, h, Nat.ne_of_lt h]
  · simp [bitAt, BitVec.getLsbD_shiftLeft, Bool.and_comm]
  · have hne : j - p ≠ 0 := by omega
    simp [bitAt, BitVec.getLsbD_shiftLeft, hne, Nat.ne_of_gt h]

/-- A flipped position is seen at its own position only. -/
theorem oneHot_bit (p j : Nat) : (oneHot p).getLsbD j = (decide (j = p) && decide (j < 32)) := by
  rcases Nat.lt_trichotomy j p with h | rfl | h
  · simp [oneHot, BitVec.getLsbD_shiftLeft, h, Nat.ne_of_lt h]
  · simp [oneHot, BitVec.getLsbD_shiftLeft]
  · have hne : j - p ≠ 0 := by omega
    simp [oneHot, BitVec.getLsbD_shiftLeft, BitVec.getLsbD_one, hne, Nat.ne_of_gt h]

/-- A flip is the XOR with the word that has a one at that position only. -/
theorem flip_eq_xor (w : Word32) (j : Nat) : flip w j = w ^^^ oneHot j := rfl

/-- A bit of the gathered data word is the bit of the word at its position. -/
theorem gather_bit (w : Word32) (n : Fin 26) : (gather w).getLsbD n.val = w.getLsbD (pos n.val) := by
  fin_cases n <;> simp [gather, posMaskA, posMaskB, posMaskC, posMaskD, pos]

theorem gather_of_xor (a b : Word32) : gather (a ^^^ b) = gather a ^^^ gather b := by
  apply BitVec.eq_of_getLsbD_eq
  intro j hj
  have h := fun w => gather_bit w ⟨j, hj⟩
  rw [BitVec.getLsbD_xor, h a, h b, h (a ^^^ b), BitVec.getLsbD_xor]

/-- The check of a group is linear. -/
theorem groupCheck_of_xor (a b : Word32) (k : Fin 5) :
    groupCheck (a ^^^ b) k = (groupCheck a k ^^ groupCheck b k) := by
  have h : (a ^^^ b) &&& coverMask k = (a &&& coverMask k) ^^^ (b &&& coverMask k) := by
    apply BitVec.eq_of_getLsbD_eq
    intro j _
    simp [Bool.and_xor_distrib_right]
  unfold groupCheck par xorReduce
  rw [h, xorBits_of_xor]

/-- A bit placed at a Hamming parity position is seen by its own group only, a bit placed at position 0 by none. -/
theorem groupCheck_of_bitAt_zero (b : Bool) (k : Fin 5) : groupCheck (bitAt b 0) k = false := by
  revert b k
  decide

set_option maxRecDepth 4000 in
theorem groupCheck_of_bitAt (b : Bool) (m k : Fin 5) :
    groupCheck (bitAt b (2 ^ m.val)) k = (b && decide (k = m)) := by
  revert b m k
  decide

end Sys2Proof.Machine
end

