-- ==== Sys2Proof/Laws/PerInstr.lean ====
section
/-!
SUPPORT. A property of every instruction as syntax, one lemma a constructor: the word of an instruction belongs to the
row of the opcode map that has its mnemonic (`spec/30_encoding.md` R70).
-/

namespace Sys2Proof.Laws.RowMatch

/-- The encoded word has the fixed bits of its own row of the table. -/
def Statement (i : Instr) : Prop :=
  ∃ row ∈ opcodeTable, row.mnemonic = i.mnemonic ∧ row.matchesWord (encode i) = true

theorem par (v : Word32) : Statement (.par v) := by
  refine ⟨⟨"PAR", 0x300000000#34, 0x000000000#34⟩, by simp [opcodeTable], rfl, ?_⟩
  simp only [OpcodeRow.matchesWord, encode, requestWord, beq_iff_eq]
  apply BitVec.eq_of_getLsbD_eq
  intro j hj
  interval_cases j <;> simp

theorem enc (d : DataWord) : Statement (.enc d) := by
  refine ⟨⟨"ENC", 0x3FC000000#34, 0x100000000#34⟩, by simp [opcodeTable], rfl, ?_⟩
  simp only [OpcodeRow.matchesWord, encode, requestWord, beq_iff_eq]
  apply BitVec.eq_of_getLsbD_eq
  intro j hj
  interval_cases j <;> simp

theorem dec (c : Word32) : Statement (.dec c) := by
  refine ⟨⟨"DEC", 0x300000000#34, 0x200000000#34⟩, by simp [opcodeTable], rfl, ?_⟩
  simp only [OpcodeRow.matchesWord, encode, requestWord, beq_iff_eq]
  apply BitVec.eq_of_getLsbD_eq
  intro j hj
  interval_cases j <;> simp

end Sys2Proof.Laws.RowMatch
end

