-- ==== Sys2Proof/Laws/Request.lean ====
section
/-!
SUPPORT. The two fields of a request word that `requestWord` puts together (`spec/30_encoding.md` R68), and the two fields
of the operand of `ENC`.
-/

namespace Sys2Proof

@[simp] theorem reqOp_of_requestWord (op : BitVec 2) (arg : Word32) : reqOp (requestWord op arg) = op := by
  apply BitVec.eq_of_getLsbD_eq
  intro j hj
  simp only [reqOp, requestWord]
  interval_cases j <;> simp

@[simp] theorem reqArg_of_requestWord (op : BitVec 2) (arg : Word32) : reqArg (requestWord op arg) = arg := by
  apply BitVec.eq_of_getLsbD_eq
  intro j hj
  simp only [reqArg, requestWord]
  interval_cases j <;> simp

/-- A request word is its two fields. -/
theorem requestWord_of_fields (r : RequestWord) : requestWord (reqOp r) (reqArg r) = r := by
  apply BitVec.eq_of_getLsbD_eq
  intro j hj
  simp only [reqOp, reqArg, requestWord]
  interval_cases j <;> simp

@[simp] theorem argHigh_of_data (d : DataWord) : argHigh (d.setWidth 32) = 0#6 := by
  apply BitVec.eq_of_getLsbD_eq
  intro j hj
  simp only [argHigh]
  interval_cases j <;> simp

@[simp] theorem argData_of_data (d : DataWord) : argData (d.setWidth 32) = d := by
  apply BitVec.eq_of_getLsbD_eq
  intro j hj
  simp only [argData]
  interval_cases j <;> simp

/-- An operand of `ENC` in range is its data word, zero-extended. -/
theorem data_of_argData (a : Word32) (h : argHigh a = 0#6) : (argData a).setWidth 32 = a := by
  have high : ∀ j < 6, a.getLsbD (26 + j) = false := by
    intro j hj
    have := congrArg (fun v => v.getLsbD j) h
    simpa [argHigh, hj] using this
  apply BitVec.eq_of_getLsbD_eq
  intro i hi
  by_cases low : i < 26
  · simp [argData, hi, low]
  · obtain ⟨j, rfl⟩ : ∃ j, i = 26 + j := ⟨i - 26, by omega⟩
    rw [high j (by omega)]
    simp

/-- The number of a request word, read back at the width of the table in whole bytes, is that request. -/
@[simp] theorem requestOfNat_of_request (r : RequestWord) : requestOfNat 40 r.toNat = some r := by
  have h := r.isLt
  have small : r.toNat % 2 ^ 40 = r.toNat := Nat.mod_eq_of_lt (by omega)
  simp only [requestOfNat, small, h, if_true, BitVec.ofNat_toNat, BitVec.setWidth_eq]

end Sys2Proof
end

