-- ==== Sys2Proof/Laws/State.lean ====
section
/-!
SUPPORT. One lemma for each field of `State` and each operation of `Sys2Proof/Machine/Ops.lean`, and one for each output
port and each operation, so that no proof unfolds a record update.
-/

namespace Sys2Proof.Machine

variable (s : State)

/-! `State.drivePar` -/

@[simp] theorem State.drivePar_parIn (v : Word32) : (s.drivePar v).parIn = some v := rfl
@[simp] theorem State.drivePar_encData (v : Word32) : (s.drivePar v).encData = s.encData := rfl
@[simp] theorem State.drivePar_decCode (v : Word32) : (s.drivePar v).decCode = s.decCode := rfl
@[simp] theorem State.drivePar_requests (v : Word32) : (s.drivePar v).requests = s.requests := rfl
@[simp] theorem State.drivePar_responses (v : Word32) : (s.drivePar v).responses = s.responses := rfl
@[simp] theorem State.drivePar_parOut (v : Word32) : (s.drivePar v).parOut = some (par v) := rfl
@[simp] theorem State.drivePar_encCode (v : Word32) : (s.drivePar v).encCode = s.encCode := rfl
@[simp] theorem State.drivePar_decDataOut (v : Word32) : (s.drivePar v).decDataOut = s.decDataOut := rfl
@[simp] theorem State.drivePar_decDedOut (v : Word32) : (s.drivePar v).decDedOut = s.decDedOut := rfl
@[simp] theorem State.drivePar_decSynOut (v : Word32) : (s.drivePar v).decSynOut = s.decSynOut := rfl
@[simp] theorem State.drivePar_decParOut (v : Word32) : (s.drivePar v).decParOut = s.decParOut := rfl
@[simp] theorem State.drivePar_decStatusOut (v : Word32) : (s.drivePar v).decStatusOut = s.decStatusOut := rfl

/-! `State.driveEnc` -/

@[simp] theorem State.driveEnc_parIn (d : DataWord) : (s.driveEnc d).parIn = s.parIn := rfl
@[simp] theorem State.driveEnc_encData (d : DataWord) : (s.driveEnc d).encData = some d := rfl
@[simp] theorem State.driveEnc_decCode (d : DataWord) : (s.driveEnc d).decCode = s.decCode := rfl
@[simp] theorem State.driveEnc_requests (d : DataWord) : (s.driveEnc d).requests = s.requests := rfl
@[simp] theorem State.driveEnc_responses (d : DataWord) : (s.driveEnc d).responses = s.responses := rfl
@[simp] theorem State.driveEnc_parOut (d : DataWord) : (s.driveEnc d).parOut = s.parOut := rfl
@[simp] theorem State.driveEnc_encCode (d : DataWord) : (s.driveEnc d).encCode = some (enc d) := rfl
@[simp] theorem State.driveEnc_decDataOut (d : DataWord) : (s.driveEnc d).decDataOut = s.decDataOut := rfl
@[simp] theorem State.driveEnc_decDedOut (d : DataWord) : (s.driveEnc d).decDedOut = s.decDedOut := rfl
@[simp] theorem State.driveEnc_decSynOut (d : DataWord) : (s.driveEnc d).decSynOut = s.decSynOut := rfl
@[simp] theorem State.driveEnc_decParOut (d : DataWord) : (s.driveEnc d).decParOut = s.decParOut := rfl
@[simp] theorem State.driveEnc_decStatusOut (d : DataWord) : (s.driveEnc d).decStatusOut = s.decStatusOut := rfl

/-! `State.driveDec` -/

@[simp] theorem State.driveDec_parIn (c : Word32) : (s.driveDec c).parIn = s.parIn := rfl
@[simp] theorem State.driveDec_encData (c : Word32) : (s.driveDec c).encData = s.encData := rfl
@[simp] theorem State.driveDec_decCode (c : Word32) : (s.driveDec c).decCode = some c := rfl
@[simp] theorem State.driveDec_requests (c : Word32) : (s.driveDec c).requests = s.requests := rfl
@[simp] theorem State.driveDec_responses (c : Word32) : (s.driveDec c).responses = s.responses := rfl
@[simp] theorem State.driveDec_parOut (c : Word32) : (s.driveDec c).parOut = s.parOut := rfl
@[simp] theorem State.driveDec_encCode (c : Word32) : (s.driveDec c).encCode = s.encCode := rfl
@[simp] theorem State.driveDec_decDataOut (c : Word32) : (s.driveDec c).decDataOut = some (decData c) := rfl
@[simp] theorem State.driveDec_decDedOut (c : Word32) : (s.driveDec c).decDedOut = some (decDed c) := rfl
@[simp] theorem State.driveDec_decSynOut (c : Word32) : (s.driveDec c).decSynOut = some (decSyn c) := rfl
@[simp] theorem State.driveDec_decParOut (c : Word32) : (s.driveDec c).decParOut = some (decPar c) := rfl
@[simp] theorem State.driveDec_decStatusOut (c : Word32) : (s.driveDec c).decStatusOut = some (decStatus c) := rfl

/-! `State.releasePar` -/

@[simp] theorem State.releasePar_parIn : (s.releasePar).parIn = none := rfl
@[simp] theorem State.releasePar_encData : (s.releasePar).encData = s.encData := rfl
@[simp] theorem State.releasePar_decCode : (s.releasePar).decCode = s.decCode := rfl
@[simp] theorem State.releasePar_requests : (s.releasePar).requests = s.requests := rfl
@[simp] theorem State.releasePar_responses : (s.releasePar).responses = s.responses := rfl
@[simp] theorem State.releasePar_parOut : (s.releasePar).parOut = none := rfl
@[simp] theorem State.releasePar_encCode : (s.releasePar).encCode = s.encCode := rfl
@[simp] theorem State.releasePar_decDataOut : (s.releasePar).decDataOut = s.decDataOut := rfl
@[simp] theorem State.releasePar_decDedOut : (s.releasePar).decDedOut = s.decDedOut := rfl
@[simp] theorem State.releasePar_decSynOut : (s.releasePar).decSynOut = s.decSynOut := rfl
@[simp] theorem State.releasePar_decParOut : (s.releasePar).decParOut = s.decParOut := rfl
@[simp] theorem State.releasePar_decStatusOut : (s.releasePar).decStatusOut = s.decStatusOut := rfl

/-! `State.releaseEnc` -/

@[simp] theorem State.releaseEnc_parIn : (s.releaseEnc).parIn = s.parIn := rfl
@[simp] theorem State.releaseEnc_encData : (s.releaseEnc).encData = none := rfl
@[simp] theorem State.releaseEnc_decCode : (s.releaseEnc).decCode = s.decCode := rfl
@[simp] theorem State.releaseEnc_requests : (s.releaseEnc).requests = s.requests := rfl
@[simp] theorem State.releaseEnc_responses : (s.releaseEnc).responses = s.responses := rfl
@[simp] theorem State.releaseEnc_parOut : (s.releaseEnc).parOut = s.parOut := rfl
@[simp] theorem State.releaseEnc_encCode : (s.releaseEnc).encCode = none := rfl
@[simp] theorem State.releaseEnc_decDataOut : (s.releaseEnc).decDataOut = s.decDataOut := rfl
@[simp] theorem State.releaseEnc_decDedOut : (s.releaseEnc).decDedOut = s.decDedOut := rfl
@[simp] theorem State.releaseEnc_decSynOut : (s.releaseEnc).decSynOut = s.decSynOut := rfl
@[simp] theorem State.releaseEnc_decParOut : (s.releaseEnc).decParOut = s.decParOut := rfl
@[simp] theorem State.releaseEnc_decStatusOut : (s.releaseEnc).decStatusOut = s.decStatusOut := rfl

/-! `State.releaseDec` -/

@[simp] theorem State.releaseDec_parIn : (s.releaseDec).parIn = s.parIn := rfl
@[simp] theorem State.releaseDec_encData : (s.releaseDec).encData = s.encData := rfl
@[simp] theorem State.releaseDec_decCode : (s.releaseDec).decCode = none := rfl
@[simp] theorem State.releaseDec_requests : (s.releaseDec).requests = s.requests := rfl
@[simp] theorem State.releaseDec_responses : (s.releaseDec).responses = s.responses := rfl
@[simp] theorem State.releaseDec_parOut : (s.releaseDec).parOut = s.parOut := rfl
@[simp] theorem State.releaseDec_encCode : (s.releaseDec).encCode = s.encCode := rfl
@[simp] theorem State.releaseDec_decDataOut : (s.releaseDec).decDataOut = none := rfl
@[simp] theorem State.releaseDec_decDedOut : (s.releaseDec).decDedOut = none := rfl
@[simp] theorem State.releaseDec_decSynOut : (s.releaseDec).decSynOut = none := rfl
@[simp] theorem State.releaseDec_decParOut : (s.releaseDec).decParOut = none := rfl
@[simp] theorem State.releaseDec_decStatusOut : (s.releaseDec).decStatusOut = none := rfl

/-! `State.present` -/

@[simp] theorem State.present_parIn (r : RequestWord) : (s.present r).parIn = s.parIn := rfl
@[simp] theorem State.present_encData (r : RequestWord) : (s.present r).encData = s.encData := rfl
@[simp] theorem State.present_decCode (r : RequestWord) : (s.present r).decCode = s.decCode := rfl
@[simp] theorem State.present_requests (r : RequestWord) : (s.present r).requests = s.requests ++ [r] := rfl
@[simp] theorem State.present_responses (r : RequestWord) : (s.present r).responses = s.responses := rfl
@[simp] theorem State.present_parOut (r : RequestWord) : (s.present r).parOut = s.parOut := rfl
@[simp] theorem State.present_encCode (r : RequestWord) : (s.present r).encCode = s.encCode := rfl
@[simp] theorem State.present_decDataOut (r : RequestWord) : (s.present r).decDataOut = s.decDataOut := rfl
@[simp] theorem State.present_decDedOut (r : RequestWord) : (s.present r).decDedOut = s.decDedOut := rfl
@[simp] theorem State.present_decSynOut (r : RequestWord) : (s.present r).decSynOut = s.decSynOut := rfl
@[simp] theorem State.present_decParOut (r : RequestWord) : (s.present r).decParOut = s.decParOut := rfl
@[simp] theorem State.present_decStatusOut (r : RequestWord) : (s.present r).decStatusOut = s.decStatusOut := rfl

/-! `State.presentNext` -/

@[simp] theorem State.presentNext_parIn (r : RequestWord) : (s.presentNext r).parIn = s.parIn := rfl
@[simp] theorem State.presentNext_encData (r : RequestWord) : (s.presentNext r).encData = s.encData := rfl
@[simp] theorem State.presentNext_decCode (r : RequestWord) : (s.presentNext r).decCode = s.decCode := rfl
@[simp] theorem State.presentNext_requests (r : RequestWord) : (s.presentNext r).requests = r :: s.requests := rfl
@[simp] theorem State.presentNext_responses (r : RequestWord) : (s.presentNext r).responses = s.responses := rfl
@[simp] theorem State.presentNext_parOut (r : RequestWord) : (s.presentNext r).parOut = s.parOut := rfl
@[simp] theorem State.presentNext_encCode (r : RequestWord) : (s.presentNext r).encCode = s.encCode := rfl
@[simp] theorem State.presentNext_decDataOut (r : RequestWord) : (s.presentNext r).decDataOut = s.decDataOut := rfl
@[simp] theorem State.presentNext_decDedOut (r : RequestWord) : (s.presentNext r).decDedOut = s.decDedOut := rfl
@[simp] theorem State.presentNext_decSynOut (r : RequestWord) : (s.presentNext r).decSynOut = s.decSynOut := rfl
@[simp] theorem State.presentNext_decParOut (r : RequestWord) : (s.presentNext r).decParOut = s.decParOut := rfl
@[simp] theorem State.presentNext_decStatusOut (r : RequestWord) : (s.presentNext r).decStatusOut = s.decStatusOut := rfl

/-! `State.respond` -/

@[simp] theorem State.respond_parIn (a : Response) : (s.respond a).parIn = s.parIn := rfl
@[simp] theorem State.respond_encData (a : Response) : (s.respond a).encData = s.encData := rfl
@[simp] theorem State.respond_decCode (a : Response) : (s.respond a).decCode = s.decCode := rfl
@[simp] theorem State.respond_requests (a : Response) : (s.respond a).requests = s.requests := rfl
@[simp] theorem State.respond_responses (a : Response) : (s.respond a).responses = s.responses ++ [a] := rfl
@[simp] theorem State.respond_parOut (a : Response) : (s.respond a).parOut = s.parOut := rfl
@[simp] theorem State.respond_encCode (a : Response) : (s.respond a).encCode = s.encCode := rfl
@[simp] theorem State.respond_decDataOut (a : Response) : (s.respond a).decDataOut = s.decDataOut := rfl
@[simp] theorem State.respond_decDedOut (a : Response) : (s.respond a).decDedOut = s.decDedOut := rfl
@[simp] theorem State.respond_decSynOut (a : Response) : (s.respond a).decSynOut = s.decSynOut := rfl
@[simp] theorem State.respond_decParOut (a : Response) : (s.respond a).decParOut = s.decParOut := rfl
@[simp] theorem State.respond_decStatusOut (a : Response) : (s.respond a).decStatusOut = s.decStatusOut := rfl

/-! `rejectRequest` -/

@[simp] theorem rejectRequest_parIn (why : RejectReason) : (rejectRequest why s).parIn = s.parIn := rfl
@[simp] theorem rejectRequest_encData (why : RejectReason) : (rejectRequest why s).encData = s.encData := rfl
@[simp] theorem rejectRequest_decCode (why : RejectReason) : (rejectRequest why s).decCode = s.decCode := rfl
@[simp] theorem rejectRequest_requests (why : RejectReason) : (rejectRequest why s).requests = s.requests := rfl
@[simp] theorem rejectRequest_responses (why : RejectReason) : (rejectRequest why s).responses = s.responses ++ [.rejected why] := rfl
@[simp] theorem rejectRequest_parOut (why : RejectReason) : (rejectRequest why s).parOut = s.parOut := rfl
@[simp] theorem rejectRequest_encCode (why : RejectReason) : (rejectRequest why s).encCode = s.encCode := rfl
@[simp] theorem rejectRequest_decDataOut (why : RejectReason) : (rejectRequest why s).decDataOut = s.decDataOut := rfl
@[simp] theorem rejectRequest_decDedOut (why : RejectReason) : (rejectRequest why s).decDedOut = s.decDedOut := rfl
@[simp] theorem rejectRequest_decSynOut (why : RejectReason) : (rejectRequest why s).decSynOut = s.decSynOut := rfl
@[simp] theorem rejectRequest_decParOut (why : RejectReason) : (rejectRequest why s).decParOut = s.decParOut := rfl
@[simp] theorem rejectRequest_decStatusOut (why : RejectReason) : (rejectRequest why s).decStatusOut = s.decStatusOut := rfl

end Sys2Proof.Machine
end

