-- ==== Sys2Proof/Laws/Step.lean ====
section
/-!
SUPPORT. What the decoder, an instruction and a step can do, each said once.
-/

namespace Sys2Proof.Machine

/-- An accepted request is one of the three operations with its operand field. -/
theorem decode_ok_cases {r : RequestWord} {i : Instr} (h : decode r = .ok i) :
    (reqOp r = 0b00#2 ∧ i = .par (reqArg r)) ∨
    (reqOp r = 0b01#2 ∧ argHigh (reqArg r) = 0#6 ∧ i = .enc (argData (reqArg r))) ∨
    (reqOp r ≠ 0b11#2 ∧ reqOp r ≠ 0b00#2 ∧ reqOp r ≠ 0b01#2 ∧ i = .dec (reqArg r)) := by
  unfold decode at h
  split at h
  · cases h
  split at h
  · cases h
  rename_i h3 hr
  split at h
  · cases h; exact .inl ⟨‹_›, rfl⟩
  split at h
  · rename_i h1
    cases h
    exact .inr (.inl ⟨h1, Classical.byContradiction fun hne => hr ⟨h1, hne⟩, rfl⟩)
  · cases h; exact .inr (.inr ⟨h3, ‹_›, ‹_›, rfl⟩)

/-- A refused request has one of the two reasons of `spec/60_exceptions.md` R173. -/
theorem decode_error_cases {r : RequestWord} {why : RejectReason} (h : decode r = .error why) :
    (reqOp r = 0b11#2 ∧ why = .reservedOp) ∨
    (reqOp r = 0b01#2 ∧ argHigh (reqArg r) ≠ 0#6 ∧ why = .outOfRange) := by
  unfold decode at h
  split at h
  · cases h; exact .inl ⟨‹_›, rfl⟩
  split at h
  · rename_i hr
    cases h; exact .inr ⟨hr.1, hr.2, rfl⟩
  split at h
  · cases h
  split at h <;> cases h

/-- What evaluating an instruction can do: it answers, and its answer is the value of the operation. -/
theorem exec_next_cases {i : Instr} {s t : State} (h : exec i s = .next t) :
    (∃ v, i = .par v ∧ t = (s.drivePar v).respond (responseOf i)) ∨
    (∃ d, i = .enc d ∧ t = (s.driveEnc d).respond (responseOf i)) ∨
    (∃ c, i = .dec c ∧ t = (s.driveDec c).respond (responseOf i)) := by
  cases i with
  | par v => cases h; exact .inl ⟨v, rfl, rfl⟩
  | enc d => cases h; exact .inr (.inl ⟨d, rfl, rfl⟩)
  | dec c => cases h; exact .inr (.inr ⟨c, rfl, rfl⟩)

theorem takeRequest_none_iff (s : State) : takeRequest s = none ↔ s.requests = [] := by
  unfold takeRequest
  split <;> simp_all

theorem takeRequest_some_iff (s t : State) (r : RequestWord) :
    takeRequest s = some (r, t) ↔ s.requests = r :: t.requests ∧ t = { s with requests := t.requests } := by
  unfold takeRequest
  split
  · simp_all
  · rename_i q rest hs
    constructor
    · rintro ⟨rfl, rfl⟩
      exact ⟨hs, rfl⟩
    · rintro ⟨hq, ht⟩
      rw [hs] at hq
      injection hq with hq hrest
      rw [ht, hq, hrest]

/-- What a step can do: nothing, where no request waits; the evaluation of the oldest request; or its rejection. -/
theorem step_next_cases {s t : State} (h : step s = .next t) :
    (s.requests = [] ∧ t = s) ∨
    (∃ r rest i, s.requests = r :: rest ∧ decode r = .ok i ∧ exec i { s with requests := rest } = .next t) ∨
    (∃ r rest why, s.requests = r :: rest ∧ decode r = .error why ∧
      t = rejectRequest why { s with requests := rest }) := by
  unfold step at h
  split at h
  · rename_i hn
    cases h
    exact .inl ⟨(takeRequest_none_iff s).1 hn, rfl⟩
  · rename_i r s' hs
    obtain ⟨hq, hs'⟩ := (takeRequest_some_iff s s' r).1 hs
    split at h
    · rename_i i hi
      exact .inr (.inl ⟨r, s'.requests, i, hq, hi, hs' ▸ h⟩)
    · rename_i why hw
      cases h
      exact .inr (.inr ⟨r, s'.requests, why, hq, hw, congrArg (rejectRequest why) hs'⟩)

end Sys2Proof.Machine
end

