-- ==== Sys2Proof/Tests/Slice0.lean ====
section
/-!
SUPPORT. Tests, each expected value from the spec's own vectors (`spec/95_test_vectors.md`) or worked examples, and for each
statement of `Sys2Proof/Certificates/Slice0/Obligations.lean` that has hypotheses one witness that meets them, clause by
clause at the ends of its ranges.
-/

namespace Sys2Proof.Tests

open Sys2Proof.Machine

set_option maxRecDepth 4000

/-! ### WellFormed: one ill-formed request for each check (`spec/30_encoding.md` R71) -/

theorem test_reserved_op_is_ill_formed :
    RequestWord.opDefined 0x32F1929E0#34 = false ∧ RequestWord.wellFormed 0x32F1929E0#34 = false := by decide

theorem test_data_2_pow_26_is_ill_formed :
    RequestWord.encInRange 0x104000000#34 = false ∧ RequestWord.wellFormed 0x104000000#34 = false := by decide

theorem test_largest_data_is_well_formed : RequestWord.wellFormed 0x103FFFFFF#34 = true := by decide

/-! ### Decoding, words written out from the patterns of R70 -/

theorem test_decode_par : decode 0b0000010010001101000101011001111000#34 = .ok (.par 0x12345678#32) := by decide

theorem test_decode_enc : decode 0b0100000000101111000110000101001110#34 = .ok (.enc 12345678#26) := by decide

theorem test_decode_dec : decode 0b1000101111001110010010100111100000#34 = .ok (.dec 0x2F3929E0#32) := by decide

theorem test_decode_rejects :
    decode 0b0100000100000000000000000000000000#34 = .error .outOfRange ∧
    decode 0b0110000000000000000000000000000000#34 = .error .outOfRange ∧
    decode 0b1100000000000000000000000000000000#34 = .error .reservedOp := by decide

theorem test_decode_table_words :
    decodeTableWord 40 0x000000000 = some (.par 0#32) ∧ decodeTableWord 40 0x100000000 = some (.enc 0#26) ∧
    decodeTableWord 40 0x200000000 = some (.dec 0#32) ∧ decodeTableWord 40 0x400000000 = none := by decide

/-! ### The operations, one step each (`spec/95_test_vectors.md` sections 2, 4, 5 and 6) -/

/-- The interface with one request presented. -/
def withRequest (r : RequestWord) : State := State.reset.present r

/-- The responses and the value of one output after a step. -/
def after {α : Type} (s : State) (view : State → α) : Option (α × List Response × List RequestWord) :=
  match step s with
  | .next t => some (view t, t.responses, t.requests)
  | .fault _ => none
  | .refused _ => none

theorem test_par_top_bit : after (withRequest 0x080000000#34) State.parOut = some (some true, [.parityBit true], []) := by
  decide

theorem test_par_leaves_the_other_units :
    after (withRequest 0x012345678#34) (fun s => (s.parIn, s.encCode, s.decDedOut)) =
      some ((some 0x12345678#32, none, none), [.parityBit true], []) := by decide

theorem test_enc_scenario :
    after (withRequest 0x100BC614E#34) State.encCode = some (some 0x2F1929E0#32, [.codeword 0x2F1929E0#32], []) := by decide

theorem test_enc_highest_data_bit :
    after (withRequest 0x102000000#34) State.encCode = some (some 0x80010116#32, [.codeword 0x80010116#32], []) := by decide

theorem test_dec_corrects_position_21 :
    after (withRequest 0x22F3929E0#34) (fun s => (s.decSynOut, s.decParOut)) =
      some ((some 21#5, some true), [.data 12345678#26], []) ∧
    after (withRequest 0x22F3929E0#34) (fun s => (s.decStatusOut, s.decDedOut)) =
      some ((some 0b11#2, some false), [.data 12345678#26], []) := by decide

theorem test_dec_detects_positions_0_and_1 :
    after (withRequest 0x22F1929E3#34) (fun s => (s.decSynOut, s.decParOut)) =
      some ((some 1#5, some false), [.doubleErrorDetected], []) ∧
    after (withRequest 0x22F1929E3#34) (fun s => (s.decStatusOut, s.decDedOut)) =
      some ((some 0b10#2, some true), [.doubleErrorDetected], []) := by decide

theorem test_rejections_evaluate_nothing :
    after (withRequest 0x1FFBC614E#34) State.encData = some (none, [.rejected .outOfRange], []) ∧
    after (withRequest 0x300BC614E#34) State.decCode = some (none, [.rejected .reservedOp], []) := by decide

theorem test_first_step_after_reset_runs_the_fetched_word :
    after (State.reset.withFetchWord 40 0x200000008) State.decSynOut = some (some 3#5, [.data 0#26], []) := by decide

theorem test_flat_response_words :
    responseWord 0x012345678#34 = 0x000000001#35 ∧ responseWord 0x100BC614E#34 = 0x02F1929E0#35 ∧
    responseWord 0x22F3929E0#34 = 0x000BC614E#35 ∧ responseWord 0x104000000#34 = 0x200000000#35 ∧
    responseWord 0x300000000#34 = 0x300000000#35 := by decide

/-! ### Inner values (`spec/40_parity.md` R93, `spec/41_encoder.md` R107, `spec/42_decoder.md` R137, `spec/43_code_properties.md` R155) -/

theorem test_fold_steps :
    foldBy16 0x12345678#32 = 0x1234444C#32 ∧ foldBy8 0x12345678#32 = 0x12267008#32 ∧
    foldBy4 0x12345678#32 = 0x13041708#32 ∧ parFold 0x12345678#32 = true := by decide

theorem test_encoder_steps :
    scatter 12345678#26 = 0x2F1828E0#32 ∧ encHp 12345678#26 = 0x2F1929E0#32 ∧ encP0 12345678#26 = false ∧
    encHp 1#26 = 0x0000000E#32 ∧ encP0 1#26 = true := by decide

theorem test_decoder_steps :
    corrMask 0x2F3929E0#32 = 0x00200000#32 ∧ corrected 0x2F3929E0#32 = 0x2F1929E0#32 ∧
    extracted 0x2F3929E0#32 = 0x0BC614E#26 ∧ corrected 0x2F1929E1#32 = 0x2F1929E1#32 := by decide

theorem test_three_flips_are_miscorrected :
    dec 0x2F1929E7#32 = .data 12345679#26 ∧ dec 0x2F1929EE#32 = .data 12345679#26 ∧
    dec 0xCF1929E0#32 = .data 58483022#26 := by decide

theorem test_chk : chk 0x2F1929E0#32 = true ∧ chk 0x2F1929E1#32 = false ∧ chk 0x2F3929E0#32 = false := by decide

theorem test_arbitrary_words : dec 0x12345678#32 = .data 0x048F2B7#26 ∧ dec 0xDEADBEEF#32 = .doubleErrorDetected := by
  decide

/-! ### Witnesses of the statements' hypotheses -/

theorem witness_PositionRolesAndGroups : 3 ∉ checkPositions ∧ 31 ∉ checkPositions := by decide

theorem witness_DataPositionMap :
    (1 ≤ (1 : Fin 26).val ∧ (3 : Fin 26).val ≤ 3) ∧ (4 ≤ (4 : Fin 26).val ∧ (10 : Fin 26).val ≤ 10) ∧
    11 ≤ (25 : Fin 26).val ∧ (3 : Fin 32).val ∉ checkPositions ∧ (31 : Fin 32).val ∉ checkPositions := by decide

theorem witness_SyndromeNamesFlippedPosition :
    validCodeword 0x0000000F#32 ∧ (decSyn (flip 0x0000000F#32 0)).toNat = 0 ∧
    (decSyn (flip 0x0000000F#32 31)).toNat = 31 := by decide

theorem witness_ParityLaws : 0x80000001#32 &&& 0x00000002#32 = 0#32 := by decide

theorem witness_ScatterPlacesDataBits : 0 ∈ checkPositions ∧ 16 ∈ checkPositions := by decide

theorem witness_HammingParityBits :
    (∀ k : Fin 5, (0 : Fin 32).val ≠ 2 ^ k.val) ∧ (∀ k : Fin 5, (31 : Fin 32).val ≠ 2 ^ k.val) := by decide

theorem witness_ParityPlacementOrderIrrelevant : ([4, 2, 0, 1, 3] : List (Fin 5)).Perm [0, 1, 2, 3, 4] := by decide

theorem witness_EncoderPseudocode : enc 0x3FFFFFF#26 = enc 0x3FFFFFF#26 := rfl

theorem witness_OverallParityCheck : validCodeword 0x2F1929E0#32 := by decide

theorem witness_SyndromeOfErrorPattern :
    validCodeword 0x2F1929E0#32 ∧ decSyn (0x2F1929E0#32 ^^^ 0x00000007#32) = indexXor 0x00000007#32 := by decide

theorem witness_DecisionTable :
    (decSyn 0x00000000#32 = 0#5 ∧ decPar 0x00000000#32 = false) ∧
    (decSyn 0x00000001#32 = 0#5 ∧ decPar 0x00000001#32 = true) ∧
    (decSyn 0x80000000#32 ≠ 0#5 ∧ decPar 0x80000000#32 = true) ∧
    (decSyn 0x00000003#32 ≠ 0#5 ∧ decPar 0x00000003#32 = false) := by decide

theorem witness_ZeroSyndromeArm :
    (decSyn 0xFFFFFFFF#32 = 0#5 ∧ decPar 0xFFFFFFFF#32 = false) ∧
    (decSyn 0xFFFFFFFE#32 = 0#5 ∧ decPar 0xFFFFFFFE#32 = true) := by decide

theorem witness_DoubleErrorArm : dec 0x00000003#32 = .doubleErrorDetected := by decide

theorem witness_CorrectionMask :
    decFix 0x00000001#32 = false ∧
    (decFix 0x00000002#32 = true ∧ (decSyn 0x00000002#32).toNat = 1) ∧
    (decFix 0x80000000#32 = true ∧ (decSyn 0x80000000#32).toNat = 31) := by decide

theorem witness_CheckPositionsCarryNoData :
    decSyn 0x00000001#32 = 0#5 ∧
    (decFix 0x00000002#32 = true ∧ (decSyn 0x00000002#32).toNat = 2 ^ (0 : Fin 5).val) ∧
    (decFix 0x00010000#32 = true ∧ (decSyn 0x00010000#32).toNat = 2 ^ (4 : Fin 5).val) := by decide

theorem witness_Extraction :
    ∀ j : Fin 32, j.val ∉ checkPositions → (0x00010117#32).getLsbD j.val = (0x00000000#32).getLsbD j.val := by decide

theorem witness_OutcomeOfAnyErrorPattern :
    validCodeword 0x2F1929E0#32 ∧
    (popcount 0x0000000E#32 % 2 = 1 ∧ indexXor 0x0000000E#32 = 0#5) ∧
    (popcount 0x00000007#32 % 2 = 1 ∧ indexXor 0x00000007#32 ≠ 0#5) ∧
    (popcount 0x00000268#32 % 2 = 0 ∧ indexXor 0x00000268#32 ≠ 0#5) ∧
    (popcount 0x00000096#32 % 2 = 0 ∧ indexXor 0x00000096#32 = 0#5) ∧ 0x00000096#32 ≠ 0#32 := by decide

theorem witness_DecAnswersAndFrame :
    dec 0x2F1929E0#32 = .data 12345678#26 ∧ dec 0x2F1929E3#32 = .doubleErrorDetected := by decide

theorem witness_DoubleFlipIsDetected : (0 : Fin 32) < 1 ∧ (30 : Fin 32) < 31 ∧ (0 : Fin 32) < 31 := by decide

theorem witness_MinimumDistanceFour :
    validCodeword 0x00000000#32 ∧ validCodeword 0x0000000F#32 ∧ 0x00000000#32 ≠ 0x0000000F#32 := by decide

theorem witness_SyndromeParityClasses :
    dec 0x00000007#32 = .data 1#26 ∧ (validCodeword 0x0000000F#32 ∧ popcount (0x00000007#32 ^^^ 0x0000000F#32) ≤ 1) ∧
    dec 0x00000003#32 = .doubleErrorDetected := by decide

theorem witness_ReencodingADecodeResult :
    (dec 0x0000000F#32 = .data 1#26 ∧ decStatus 0x0000000F#32 = statusCode .clean) ∧
    (dec 0x0000000E#32 = .data 1#26 ∧ decStatus 0x0000000E#32 = statusCode .p0Error) ∧
    (dec 0x00000007#32 = .data 1#26 ∧ decStatus 0x00000007#32 = statusCode .corrected) := by decide

theorem witness_OpcodeMap :
    dec 0x0000000F#32 = .data 1#26 ∧ dec 0x00000003#32 = .doubleErrorDetected := by decide

theorem witness_IllegalRequestsAreRejected :
    (withRequest 0x300000000#34).requests = requestWord 0b11#2 0x00000000#32 :: [] ∧
    ((0x04000000#32).extractLsb' 26 6 ≠ 0#6 ∧
      (withRequest 0x104000000#34).requests = requestWord 0b01#2 0x04000000#32 :: []) := by decide

theorem witness_OutOfRangeDataIsRejected :
    (2 ^ 26 ≤ 2 ^ 26 ∧ 2 ^ 26 < 2 ^ 32) ∧ (2 ^ 26 ≤ 2 ^ 32 - 1 ∧ 2 ^ 32 - 1 < 2 ^ 32) := by decide

theorem witness_DecodeAndEncodeAgree :
    (Instr.enc 0x3FFFFFF#26).wellFormed = true ∧ decode 0x103FFFFFF#34 = .ok (.enc 0x3FFFFFF#26) ∧
    ∃ row ∈ opcodeTable, row.matchesWord 0x103FFFFFF#34 = true := by decide

theorem witness_FlatResponseWord :
    envelope 0x080000000#34 = .parityBit true ∧ envelope 0x100000001#34 = .codeword 0x0000000F#32 ∧
    envelope 0x20000000F#34 = .data 1#26 ∧ envelope 0x200000003#34 = .doubleErrorDetected ∧
    envelope 0x104000000#34 = .rejected .outOfRange ∧ envelope 0x300000000#34 = .rejected .reservedOp := by decide

theorem witness_StepRunsTheDecodedRequest :
    (withRequest 0x100000001#34).requests = 0x100000001#34 :: [] ∧ decode 0x100000001#34 = .ok (.enc 1#26) ∧
    State.reset.requests = [] := by decide

theorem witness_DecoderPorts :
    ((State.reset.driveDec 0x00000003#32).decCode = some 0x00000003#32 ∧
      (State.reset.driveDec 0x00000003#32).decDedOut = some true) ∧
    ((State.reset.driveDec 0x00000001#32).decCode = some 0x00000001#32 ∧
      (State.reset.driveDec 0x00000001#32).decDedOut = some false) := by decide

theorem witness_DoubleErrorSignalIsALevel :
    decSyn 0x00000003#32 ≠ 0#5 ∧ decPar 0x00000003#32 = false ∧
    ¬ (decSyn 0x00000001#32 ≠ 0#5 ∧ decPar 0x00000001#32 = false) := by decide

theorem witness_StepKeepsReturnedCodewordsValid :
    ((withRequest 0x100000001#34).respond (.codeword 0x2F1929E0#32)).codewordsValid ∧
    ∃ t : State, step ((withRequest 0x100000001#34).respond (.codeword 0x2F1929E0#32)) = .next t := by
  refine ⟨fun w hw => ?_, _, rfl⟩
  have : w = 0x2F1929E0#32 := by simpa [withRequest, State.reset, State.present, State.respond] using hw
  subst this
  decide

end Sys2Proof.Tests
end

/-! ### Parity of a word, by positions -/

namespace Sys2Proof.Machine

/-- `PAR` is linear (`spec/40_parity.md` R92). -/
theorem par_of_xor (a b : Word32) : par (a ^^^ b) = (par a ^^ par b) := xorBits_of_xor a b 32

/-- The number of ones seen so far has the parity of their XOR. -/
theorem countBits_mod_two {width : Nat} (v : BitVec width) (n : Nat) : countBits v n % 2 = (xorBits v n).toNat := by
  induction n with
  | zero => rfl
  | succ n ih =>
    rw [countBits_next_round, xorBits_next_round, Nat.add_mod, ih]
    cases xorBits v n <;> cases v.getLsbD n <;> rfl

theorem popcount_mod_two (v : Word32) : popcount v % 2 = (par v).toNat := countBits_mod_two v 32

theorem xorBits_of_bitAt (b : Bool) {p n : Nat} (hn : n ≤ 32) : xorBits (bitAt b p) n = (b && decide (p < n)) := by
  induction n with
  | zero => simp
  | succ n ih =>
    rw [xorBits_next_round, ih (by omega), bitAt_bit]
    rcases Nat.lt_trichotomy p n with h | rfl | h
    · simp [h, Nat.ne_of_gt h, Nat.lt_succ_of_lt h]
    · simp [show p < 32 by omega]
    · simp [Nat.ne_of_lt h, show ¬ p < n by omega, show ¬ p < n + 1 by omega]

/-- A single placed bit is the parity of its word. -/
theorem par_of_bitAt (b : Bool) {p : Nat} (hp : p < 32) : par (bitAt b p) = b := by
  simpa [par, xorReduce, hp] using xorBits_of_bitAt b (p := p) (le_refl 32)

/-- One position under a mask is the mask's bit at that position. -/
theorem par_of_oneHot_and (m : Word32) {p : Nat} (hp : p < 32) : par (oneHot p &&& m) = m.getLsbD p := by
  have h : oneHot p &&& m = bitAt (m.getLsbD p) p := by
    apply BitVec.eq_of_getLsbD_eq
    intro j hj
    rw [BitVec.getLsbD_and, oneHot_bit, bitAt_bit]
    by_cases hjp : j = p
    · simp [hjp, hp]
    · simp [hjp]
  rw [h, par_of_bitAt _ hp]

/-- The parity of a word is a chosen bit XOR the parity of the other bits. -/
theorem par_split_bit (w : Word32) {p : Nat} (hp : p < 32) :
    par w = (w.getLsbD p ^^ par (w &&& ~~~ oneHot p)) := by
  have h : w = (oneHot p &&& w) ^^^ (w &&& ~~~ oneHot p) := by
    apply BitVec.eq_of_getLsbD_eq
    intro j hj
    rw [BitVec.getLsbD_xor, BitVec.getLsbD_and, BitVec.getLsbD_and, BitVec.getLsbD_not]
    cases (oneHot p).getLsbD j <;> simp [hj, -BitVec.getLsbD_eq_getElem]
  calc par w = par ((oneHot p &&& w) ^^^ (w &&& ~~~ oneHot p)) := congrArg par h
    _ = (w.getLsbD p ^^ par (w &&& ~~~ oneHot p)) := by rw [par_of_xor, par_of_oneHot_and w hp]

/-- A check is zero exactly when a chosen bit is the parity of the other bits. -/
theorem par_eq_false_iff (w : Word32) {p : Nat} (hp : p < 32) :
    par w = false ↔ w.getLsbD p = par (w &&& ~~~ oneHot p) := by
  rw [par_split_bit w hp, bne_eq_false_iff_eq]

/-! ### The roles of the 32 positions (`spec/30_encoding.md` R57 to R60) -/

theorem hammingPosition_lt (k : Fin 5) : 2 ^ k.val < 32 := by
  revert k
  decide

/-- Group `k` is the set of positions whose index has bit `k` set (R60). -/
theorem coverMask_bit (k : Fin 5) {j : Nat} (hj : j < 32) : (coverMask k).getLsbD j = j.testBit k.val := by
  have h : ∀ (k : Fin 5) (j : Fin 32), (coverMask k).getLsbD j.val = j.val.testBit k.val := by decide
  exact h k ⟨j, hj⟩

@[simp] theorem coverMask_bit_hamming (k : Fin 5) : (coverMask k).getLsbD (2 ^ k.val) = true := by
  rw [coverMask_bit k (hammingPosition_lt k), Nat.testBit_two_pow_self]

theorem mem_checkPositions_iff {j : Nat} : j ∈ checkPositions ↔ j = 0 ∨ ∃ k : Fin 5, j = 2 ^ k.val := by
  simp [checkPositions, Fin.exists_fin_succ]

/-- Every member of a group but its own parity position carries data. -/
theorem not_mem_checkPositions_of_coverMask {k : Fin 5} {j : Nat} (hj : j < 32) (hm : (coverMask k).getLsbD j = true)
    (hne : j ≠ 2 ^ k.val) : j ∉ checkPositions := by
  have h : ∀ (k : Fin 5) (j : Fin 32), (coverMask k).getLsbD j.val = true → j.val ≠ 2 ^ k.val →
      j.val ∉ checkPositions := by decide
  exact h k ⟨j, hj⟩ hm hne

theorem pos_not_mem_checkPositions (n : Fin 26) : pos n.val ∉ checkPositions := by
  revert n
  decide

/-- Every position but the six check positions carries the data bit that `NUM` names (R59). -/
theorem pos_num {j : Nat} (hj : j < 32) (hc : j ∉ checkPositions) : num j < 26 ∧ pos (num j) = j := by
  have h : ∀ j : Fin 32, j.val ∉ checkPositions → num j.val < 26 ∧ pos (num j.val) = j.val := by decide
  exact h ⟨j, hj⟩ hc

/-- The bit at a data position is the gathered bit that `NUM` names. -/
theorem bit_eq_gather_num (w : Word32) {j : Nat} (hj : j < 32) (hc : j ∉ checkPositions) :
    w.getLsbD j = (gather w).getLsbD (num j) := by
  obtain ⟨hn, hp⟩ := pos_num hj hc
  rw [gather_bit w ⟨num j, hn⟩, hp]

/-! ### Valid codewords (`spec/30_encoding.md` R62) -/

/-- The five Hamming parity bits and bit 0 are each the parity of the other members of their sets. -/
theorem validCodeword_iff_check_bits (w : Word32) :
    validCodeword w ↔
      (∀ k : Fin 5, w.getLsbD (2 ^ k.val) = par (w &&& coverMask k &&& ~~~ oneHot (2 ^ k.val))) ∧
      w.getLsbD 0 = par (w &&& ~~~ oneHot 0) := by
  have hgroup (k : Fin 5) : groupCheck w k = false ↔
      w.getLsbD (2 ^ k.val) = par (w &&& coverMask k &&& ~~~ oneHot (2 ^ k.val)) := by
    rw [groupCheck, par_eq_false_iff _ (hammingPosition_lt k)]
    simp
  rw [validCodeword, par_eq_false_iff w (by decide : 0 < 32)]
  exact and_congr_left' (forall_congr' hgroup)

/-- Words that agree at every position of a mask have the same parity under it. -/
theorem par_and_of_agreement {a b m : Word32} (h : ∀ j < 32, m.getLsbD j = true → a.getLsbD j = b.getLsbD j) :
    par (a &&& m) = par (b &&& m) := by
  refine xorBits_of_agreement _ _ 32 fun j hj => ?_
  cases hm : m.getLsbD j with
  | false => simp [hm]
  | true => simp [hm, h j hj hm]

/-- A valid codeword is determined by its data bits: the group parities are functions of the data positions, and the
overall parity is a function of all the others. -/
theorem eq_of_gather_eq {a b : Word32} (ha : validCodeword a) (hb : validCodeword b) (h : gather a = gather b) :
    a = b := by
  obtain ⟨ha_group, ha_zero⟩ := (validCodeword_iff_check_bits a).1 ha
  obtain ⟨hb_group, hb_zero⟩ := (validCodeword_iff_check_bits b).1 hb
  have hdata : ∀ j < 32, j ∉ checkPositions → a.getLsbD j = b.getLsbD j := fun j hj hc => by
    rw [bit_eq_gather_num a hj hc, bit_eq_gather_num b hj hc, h]
  have hhamming (k : Fin 5) : a.getLsbD (2 ^ k.val) = b.getLsbD (2 ^ k.val) := by
    rw [ha_group, hb_group, BitVec.and_assoc, BitVec.and_assoc]
    refine par_and_of_agreement fun j hj hm => hdata j hj ?_
    obtain ⟨hcover, hother⟩ : (coverMask k).getLsbD j = true ∧ j ≠ 2 ^ k.val := by
      simpa [oneHot_bit, hj, -BitVec.getLsbD_eq_getElem] using hm
    exact not_mem_checkPositions_of_coverMask hj hcover hother
  have hnonzero : ∀ j < 32, j ≠ 0 → a.getLsbD j = b.getLsbD j := fun j hj hne => by
    by_cases hc : j ∈ checkPositions
    · obtain rfl | ⟨k, rfl⟩ := mem_checkPositions_iff.1 hc
      · exact absurd rfl hne
      · exact hhamming k
    · exact hdata j hj hc
  have hzero : a.getLsbD 0 = b.getLsbD 0 := by
    rw [ha_zero, hb_zero]
    refine par_and_of_agreement fun j hj hm => hnonzero j hj ?_
    simpa [oneHot_bit, hj, -BitVec.getLsbD_eq_getElem] using hm
  apply BitVec.eq_of_getLsbD_eq
  intro j hj
  by_cases h0 : j = 0
  · rw [h0, hzero]
  · exact hnonzero j hj h0

/-! ### The encoder's word, bit by bit -/

/-- Placing a bit at a position that is still zero is an XOR. -/
theorem or_bitAt_eq_xor {w : Word32} {p : Nat} (b : Bool) (h : w.getLsbD p = false) :
    w ||| bitAt b p = w ^^^ bitAt b p := by
  apply BitVec.eq_of_getLsbD_eq
  intro j hj
  rw [BitVec.getLsbD_or, BitVec.getLsbD_xor, bitAt_bit]
  by_cases hjp : j = p
  · simp [hjp, h]
  · simp [hjp]

/-- Step 1 of the encoder puts data bit `n` at position `POS(n)` (`spec/41_encoder.md` R96). -/
theorem scatter_bit_pos (d : DataWord) (n : Fin 26) : (scatter d).getLsbD (pos n.val) = d.getLsbD n.val := by
  fin_cases n <;> simp [scatter, dataMaskA, dataMaskB, dataMaskC, dataMaskD, pos]

/-- Step 1 of the encoder leaves the six check positions zero (R96). -/
theorem scatter_bit_check (d : DataWord) : ∀ j ∈ checkPositions, (scatter d).getLsbD j = false := by
  simp [checkPositions, scatter, dataMaskA, dataMaskB, dataMaskC, dataMaskD]

/-- Step 2 of the encoder as XORs: parity bit `k` lands on position `2^k`, which is still zero (R97). -/
theorem encHp_eq_xor (d : DataWord) :
    encHp d = scatter d ^^^ bitAt (encParity d 0) (2 ^ (0 : Fin 5).val) ^^^ bitAt (encParity d 1) (2 ^ (1 : Fin 5).val)
      ^^^ bitAt (encParity d 2) (2 ^ (2 : Fin 5).val) ^^^ bitAt (encParity d 3) (2 ^ (3 : Fin 5).val)
      ^^^ bitAt (encParity d 4) (2 ^ (4 : Fin 5).val) := by
  have hcheck := scatter_bit_check d
  simp only [checkPositions, List.forall_mem_cons] at hcheck
  obtain ⟨-, h1, h2, h4, h8, h16, -⟩ := hcheck
  rw [encHp, or_bitAt_eq_xor _ h1, or_bitAt_eq_xor, or_bitAt_eq_xor, or_bitAt_eq_xor, or_bitAt_eq_xor] <;>
    simp [bitAt_bit, h2, h4, h8, h16, -BitVec.getLsbD_eq_getElem]

theorem encHp_bit_zero (d : DataWord) : (encHp d).getLsbD 0 = false := by
  simp [encHp, bitAt_bit, scatter_bit_check d 0 (by decide), -BitVec.getLsbD_eq_getElem]

/-- Step 3 of the encoder as an XOR (R99). -/
theorem enc_eq_xor (d : DataWord) : enc d = encHp d ^^^ bitAt (encP0 d) 0 := or_bitAt_eq_xor _ (encHp_bit_zero d)

/-- The parity bits make every group even (R97). -/
theorem groupCheck_encHp (d : DataWord) (k : Fin 5) : groupCheck (encHp d) k = false := by
  simp only [encHp_eq_xor, groupCheck_of_xor, groupCheck_of_bitAt]
  fin_cases k <;> simp [encParity]

/-- Every encoder output is a valid codeword (`spec/41_encoder.md` R95). -/
theorem validCodeword_enc (d : DataWord) : validCodeword (enc d) := by
  rw [enc_eq_xor]
  constructor
  · intro k
    rw [groupCheck_of_xor, groupCheck_encHp, groupCheck_of_bitAt_zero]
    rfl
  · rw [par_of_xor, par_of_bitAt _ (by decide), encP0, Bool.xor_self]

/-- A data position of the codeword carries its data bit. -/
theorem enc_bit_pos (d : DataWord) (n : Fin 26) : (enc d).getLsbD (pos n.val) = d.getLsbD n.val := by
  have hc := pos_not_mem_checkPositions n
  simp only [checkPositions, List.mem_cons, List.not_mem_nil, or_false, not_or] at hc
  obtain ⟨h0, h1, h2, h4, h8, h16⟩ := hc
  simp [enc, encHp, bitAt_bit, scatter_bit_pos, h0, h1, h2, h4, h8, h16]

/-- `GATHER` undoes `ENC` (`spec/43_code_properties.md` R158). -/
@[simp] theorem gather_enc (d : DataWord) : gather (enc d) = d := by
  apply BitVec.eq_of_getLsbD_eq
  intro j hj
  rw [gather_bit (enc d) ⟨j, hj⟩, enc_bit_pos]

/-- Encoding the data of a valid codeword gives it back. -/
theorem enc_gather {w : Word32} (hw : validCodeword w) : enc (gather w) = w :=
  eq_of_gather_eq (validCodeword_enc _) hw (gather_enc _)

/-- The valid codewords are the encoder outputs, one for each data word (R62). -/
theorem validCodeword_iff_existsUnique_enc (w : Word32) : validCodeword w ↔ ∃! d : DataWord, enc d = w := by
  constructor
  · intro hw
    refine ⟨gather w, enc_gather hw, fun d hd => ?_⟩
    rw [← hd, gather_enc]
  · rintro ⟨d, rfl, -⟩
    exact validCodeword_enc d

/-- A range of data bits that `POS` moves as a whole stands unbroken in the codeword (R57). -/
theorem enc_extract_range (d : DataWord) {lo hi len : Nat} (h : ∀ i < len, lo + i < 26 ∧ pos (lo + i) = hi + i) :
    (enc d).extractLsb' hi len = d.extractLsb' lo len := by
  apply BitVec.eq_of_getLsbD_eq
  intro i hlen
  obtain ⟨hlt, hpos⟩ := h i hlen
  have hbit := enc_bit_pos d ⟨lo + i, hlt⟩
  simp only [hpos] at hbit
  simpa [hlen] using hbit

/-- Settles O1: the data ranges follow from `POS`, the check bits and the even weight from validity. -/
theorem codewordFieldLayout : Obligations.CodewordFieldLayout := by
  intro d
  have hvalid := validCodeword_enc d
  obtain ⟨hhamming, hzero⟩ := (validCodeword_iff_check_bits (enc d)).1 hvalid
  refine ⟨enc_extract_range d (by decide), enc_extract_range d (by decide), enc_extract_range d (by decide),
    enc_bit_pos d 0, hhamming, hzero, ?_⟩
  rw [popcount_mod_two, hvalid.2]
  rfl

/-- Settles O5: the three characterisations of a valid codeword. -/
theorem validCodewordMeaning : Obligations.ValidCodewordMeaning :=
  ⟨validCodeword_enc, fun w => ⟨Iff.rfl, validCodeword_iff_check_bits w, validCodeword_iff_existsUnique_enc w⟩⟩

/-! ### Syndrome and status (`spec/30_encoding.md` R63, R64) -/

/-- Bit `k` of the syndrome is the check of group `k` (R63). -/
@[simp] theorem decSyn_bit (c : Word32) (k : Fin 5) : (decSyn c).getLsbD k.val = groupCheck c k := by
  fin_cases k <;> simp [decSyn]

theorem decSyn_eq_zero_iff (c : Word32) : decSyn c = 0#5 ↔ ∀ k : Fin 5, groupCheck c k = false := by
  constructor
  · intro h k
    rw [← decSyn_bit, h, BitVec.getLsbD_zero]
  · intro h
    apply BitVec.eq_of_getLsbD_eq
    intro j hj
    rw [decSyn_bit c ⟨j, hj⟩, h, BitVec.getLsbD_zero]

theorem validCodeword_iff_decSyn_decPar (c : Word32) : validCodeword c ↔ decSyn c = 0#5 ∧ decPar c = false := by
  rw [decSyn_eq_zero_iff]
  rfl

/-- The syndrome is linear (`spec/43_code_properties.md` R153). -/
theorem decSyn_of_xor (a b : Word32) : decSyn (a ^^^ b) = decSyn a ^^^ decSyn b := by
  apply BitVec.eq_of_getLsbD_eq
  intro j hj
  have hbit := fun c => decSyn_bit c ⟨j, hj⟩
  rw [BitVec.getLsbD_xor, hbit, hbit, hbit, groupCheck_of_xor]

/-- A single one at position `j` is in group `k` exactly when bit `k` of `j` is set. -/
theorem groupCheck_of_oneHot {j : Nat} (hj : j < 32) (k : Fin 5) : groupCheck (oneHot j) k = j.testBit k.val := by
  rw [groupCheck, par_of_oneHot_and _ hj, coverMask_bit k hj]

/-- The syndrome of a single one is the number of its position, with no offset. -/
theorem decSyn_of_oneHot {j : Nat} (hj : j < 32) : decSyn (oneHot j) = BitVec.ofNat 5 j := by
  apply BitVec.eq_of_getLsbD_eq
  intro k hk
  rw [decSyn_bit (oneHot j) ⟨k, hk⟩, groupCheck_of_oneHot hj, BitVec.getLsbD_ofNat]
  simp [hk]

/-- A flip adds its position number to the syndrome. -/
theorem decSyn_flip (w : Word32) {j : Nat} (hj : j < 32) : decSyn (flip w j) = decSyn w ^^^ BitVec.ofNat 5 j := by
  rw [flip_eq_xor, decSyn_of_xor, decSyn_of_oneHot hj]

/-- Settles O6: the syndrome is linear, so a flip of a codeword leaves the syndrome of the flipped position alone. -/
theorem syndromeNamesFlippedPosition : Obligations.SyndromeNamesFlippedPosition := by
  have hcodeword (w : Word32) (hw : validCodeword w) : decSyn w = 0#5 := (decSyn_eq_zero_iff w).2 hw.1
  refine ⟨decSyn_bit, hcodeword, fun w j hw => ?_⟩
  rw [decSyn_flip w j.isLt, hcodeword w hw, BitVec.zero_xor, BitVec.toNat_ofNat]
  exact Nat.mod_eq_of_lt j.isLt

theorem decNz_eq_decide (c : Word32) : decNz c = decide (decSyn c ≠ 0#5) := by
  by_cases h : decSyn c = 0#5 <;> simp [decNz, h]

@[simp] theorem decStatus_bit_one (c : Word32) : (decStatus c).getLsbD 1 = decNz c := by
  simp [decStatus]

@[simp] theorem decStatus_bit_zero (c : Word32) : (decStatus c).getLsbD 0 = decPar c := by
  simp [decStatus]

/-- A status is its two bits. -/
theorem decStatus_eq_iff (c : Word32) (code : BitVec 2) :
    decStatus c = code ↔ decNz c = code.getLsbD 1 ∧ decPar c = code.getLsbD 0 := by
  rw [← decStatus_bit_one, ← decStatus_bit_zero]
  constructor
  · rintro rfl
    exact ⟨rfl, rfl⟩
  · rintro ⟨h1, h0⟩
    apply BitVec.eq_of_getLsbD_eq
    intro j hj
    interval_cases j
    · exact h0
    · exact h1

theorem decStatus_clean_iff (c : Word32) : decStatus c = statusCode .clean ↔ decSyn c = 0#5 ∧ decPar c = false := by
  simp [decStatus_eq_iff, statusCode, decNz_eq_decide]

theorem decStatus_p0Error_iff (c : Word32) :
    decStatus c = statusCode .p0Error ↔ decSyn c = 0#5 ∧ decPar c = true := by
  simp [decStatus_eq_iff, statusCode, decNz_eq_decide]

theorem decStatus_corrected_iff (c : Word32) :
    decStatus c = statusCode .corrected ↔ decSyn c ≠ 0#5 ∧ decPar c = true := by
  simp [decStatus_eq_iff, statusCode, decNz_eq_decide]

theorem decStatus_doubleError_iff (c : Word32) :
    decStatus c = statusCode .doubleError ↔ decSyn c ≠ 0#5 ∧ decPar c = false := by
  simp [decStatus_eq_iff, statusCode, decNz_eq_decide]

theorem decDed_iff (c : Word32) : decDed c = true ↔ decSyn c ≠ 0#5 ∧ decPar c = false := by
  simp [decDed, decNz_eq_decide]

theorem chk_iff (c : Word32) : chk c = true ↔ decStatus c = statusCode .clean := by
  simp [chk]

/-- Settles O7: the status is the two bits `nz` and `p`, so each code is its own pair of conditions. -/
theorem statusCodesMeaning : Obligations.StatusCodesMeaning := by
  refine ⟨⟨rfl, rfl, rfl, rfl⟩, fun c => ?_⟩
  have hclean : decStatus c = statusCode .clean ↔ validCodeword c :=
    (decStatus_clean_iff c).trans (validCodeword_iff_decSyn_decPar c).symm
  exact ⟨(decStatus_bit_one c).trans (decNz_eq_decide c), decStatus_bit_zero c, hclean, decStatus_p0Error_iff c,
    decStatus_corrected_iff c, decStatus_doubleError_iff c, (decDed_iff c).trans (decStatus_doubleError_iff c).symm,
    chk_iff c, (chk_iff c).trans hclean⟩

end Sys2Proof.Machine

/-! ### The opcode map (`spec/30_encoding.md` R70, R72) -/

namespace Sys2Proof

/-- Every instruction is read back from its request word. -/
@[simp] theorem decode_encode (i : Instr) : decode (encode i) = .ok i := by
  cases i <;> simp [encode, decode]

/-- The response to the word of an instruction is the value of its operation. -/
@[simp] theorem envelope_encode (i : Instr) : Machine.envelope (encode i) = Machine.responseOf i := by
  simp [Machine.envelope]

/-- An accepted request is the word of the instruction read from it. -/
theorem encode_of_decode {r : RequestWord} {i : Instr} (h : decode r = .ok i) : encode i = r := by
  obtain ⟨hop, rfl⟩ | ⟨hop, hhigh, rfl⟩ | ⟨h3, h0, h1, rfl⟩ := Machine.decode_ok_cases h
  · rw [encode, ← hop, requestWord_of_fields]
  · rw [encode, data_of_argData _ hhigh, ← hop, requestWord_of_fields]
  · have hop : reqOp r = 0b10#2 := by bv_omega
    rw [encode, ← hop, requestWord_of_fields]

theorem decode_eq_ok_iff {r : RequestWord} {i : Instr} : decode r = .ok i ↔ encode i = r :=
  ⟨encode_of_decode, fun h => h ▸ decode_encode i⟩

theorem requestWord_inj {a b : BitVec 2} {x y : Word32} : requestWord a x = requestWord b y ↔ a = b ∧ x = y := by
  constructor
  · intro h
    exact ⟨by simpa using congrArg reqOp h, by simpa using congrArg reqArg h⟩
  · rintro ⟨rfl, rfl⟩
    rfl

/-- A request with a given operation select is that select with some operand. -/
theorem exists_requestWord_iff (r : RequestWord) (op : BitVec 2) : (∃ v, requestWord op v = r) ↔ reqOp r = op := by
  constructor
  · rintro ⟨v, rfl⟩
    exact reqOp_of_requestWord op v
  · rintro rfl
    exact ⟨reqArg r, requestWord_of_fields r⟩

/-- The mask of the `PAR` and `DEC` rows keeps the operation select. -/
theorem and_selectMask (r : RequestWord) : r &&& 0x300000000#34 = requestWord (reqOp r) 0#32 := by
  apply BitVec.eq_of_getLsbD_eq
  intro j hj
  simp only [reqOp, requestWord]
  interval_cases j <;> simp

/-- The mask of the `ENC` row keeps the operation select and the six bits that must be zero. -/
theorem and_encMask (r : RequestWord) :
    r &&& 0x3FC000000#34 = requestWord (reqOp r) ((argHigh (reqArg r)).setWidth 32 <<< 26) := by
  apply BitVec.eq_of_getLsbD_eq
  intro j hj
  simp only [reqOp, reqArg, argHigh, requestWord]
  interval_cases j <;> simp

theorem select_match_iff (r : RequestWord) (op : BitVec 2) :
    r &&& 0x300000000#34 = requestWord op 0#32 ↔ reqOp r = op := by
  rw [and_selectMask, requestWord_inj]
  simp

/-- The row of `ENC` holds the requests with its select and a data word below `2^26`. -/
theorem enc_match_iff (r : RequestWord) :
    r &&& 0x3FC000000#34 = 0x100000000#34 ↔ reqOp r = 0b01#2 ∧ argHigh (reqArg r) = 0#6 := by
  have hpattern : (0x100000000#34 : RequestWord) = requestWord 0b01#2 0#32 := by decide
  have hshift (a : BitVec 6) : a.setWidth 32 <<< 26 = 0#32 ↔ a = 0#6 := by
    revert a
    decide
  rw [and_encMask, hpattern, requestWord_inj, hshift]

/-- The requests of `PAR` are those under its row of the opcode map. -/
theorem par_row_iff (r : RequestWord) :
    r &&& 0x300000000#34 = 0x000000000#34 ↔ ∃ v : Word32, decode r = .ok (.par v) := by
  simp only [decode_eq_ok_iff, encode, exists_requestWord_iff]
  exact select_match_iff r 0b00#2

/-- The requests of `DEC` are those under its row of the opcode map. -/
theorem dec_row_iff (r : RequestWord) :
    r &&& 0x300000000#34 = 0x200000000#34 ↔ ∃ c : Word32, decode r = .ok (.dec c) := by
  simp only [decode_eq_ok_iff, encode, exists_requestWord_iff]
  exact select_match_iff r 0b10#2

/-- The requests of `ENC` are those under its row of the opcode map. -/
theorem enc_row_iff (r : RequestWord) :
    r &&& 0x3FC000000#34 = 0x100000000#34 ↔ ∃ d : DataWord, decode r = .ok (.enc d) := by
  simp only [enc_match_iff, decode_eq_ok_iff, encode]
  constructor
  · rintro ⟨hop, hhigh⟩
    refine ⟨argData (reqArg r), ?_⟩
    rw [data_of_argData _ hhigh, ← hop, requestWord_of_fields]
  · rintro ⟨d, rfl⟩
    simp

end Sys2Proof

namespace Sys2Proof.Machine

/-- Settles O43: decoding inverts encoding, and the rows hold exactly the words of their instructions. -/
theorem opcodeMap : Obligations.OpcodeMap := by
  refine ⟨fun v => ⟨decode_encode (.par v), envelope_encode (.par v)⟩,
    fun d => ⟨decode_encode (.enc d), envelope_encode (.enc d)⟩, fun c => ⟨decode_encode (.dec c), ?_, ?_⟩,
    fun r => ⟨par_row_iff r, enc_row_iff r, dec_row_iff r⟩⟩
  · intro x hx
    exact (envelope_encode (.dec c)).trans (congrArg decResponse hx)
  · intro hded
    exact (envelope_encode (.dec c)).trans (congrArg decResponse hded)

/-! ### The flat response word (`spec/30_encoding.md` R69) -/

@[simp] theorem toNat_bitAt_zero (b : Bool) : (bitAt b 0).toNat = b.toNat := by
  cases b <;> rfl

/-- A flat response word is its two fields as numbers. -/
theorem toNat_flatWord (rc : BitVec 3) (val : Word32) :
    (rc.setWidth 35 <<< 32 ||| val.setWidth 35 : ResponseWord).toNat = rc.toNat * 2 ^ 32 + val.toNat := by
  have hrc := rc.isLt
  have hval := val.isLt
  have hrc_field : (rc.setWidth 35 <<< 32 : ResponseWord).toNat = rc.toNat <<< 32 := by
    rw [BitVec.toNat_shiftLeft, BitVec.toNat_setWidth_of_le (by decide), Nat.shiftLeft_eq]
    omega
  have hval_field : (val.setWidth 35 : ResponseWord).toNat = val.toNat := BitVec.toNat_setWidth_of_le (by decide)
  rw [BitVec.toNat_or, hrc_field, hval_field, ← Nat.shiftLeft_add_eq_or_of_lt hval, Nat.shiftLeft_eq]

theorem toNat_responseWord {r : RequestWord} {a : Response} (h : envelope r = a) :
    (responseWord r).toNat =
      (resultCode a).toNat * 2 ^ 32 + (resultValue (Config.dedData (reqArg r)) a).toNat := by
  subst h
  exact toNat_flatWord _ _

/-- Settles O49: the two fields of the response word, for each kind of response. -/
theorem flatResponseWord : Obligations.FlatResponseWord := by
  intro r
  have hdata (x : DataWord) : (x.setWidth 32).toNat = x.toNat := BitVec.toNat_setWidth_of_le (by decide)
  refine ⟨fun b h => ?_, fun w h => ?_, fun x h => ?_, fun h => ?_, fun h => ?_, fun h => ?_⟩
  all_goals simp [toNat_responseWord h, resultCode, resultValue, hdata, -BitVec.toNat_setWidth]

end Sys2Proof.Machine

/-! ### The parity XOR tree (`spec/40_parity.md` R86) -/

namespace Sys2Proof.Machine

/-- Settles O8: the loop's 32 rounds each add one bit to the XOR, and the number of ones has the parity of that XOR. -/
theorem parityIsXorReduction : Obligations.ParityIsXorReduction := by
  intro v
  constructor
  · have hrounds : par v = xorBits v 32 := rfl
    simp only [hrounds, xorBits_next_round, xorBits_zero_rounds, Bool.false_xor]
  · exact (popcount_mod_two v).symm

end Sys2Proof.Machine

/-! ### The encoder's three steps (`spec/41_encoder.md` R96 to R100) -/

namespace Sys2Proof.Machine

/-- Settles O13: the wiring of step 1, position by position. -/
theorem scatterPlacesDataBits : Obligations.ScatterPlacesDataBits :=
  fun d => ⟨scatter_bit_pos d, scatter_bit_check d⟩

/-- Step 2 puts the parity bit of group `k` at position `2^k`, which step 1 leaves zero (R97). -/
theorem encHp_bit_hamming (d : DataWord) (k : Fin 5) : (encHp d).getLsbD (2 ^ k.val) = encParity d k := by
  have hcheck : (scatter d).getLsbD (2 ^ k.val) = false :=
    scatter_bit_check d _ (mem_checkPositions_iff.2 (.inr ⟨k, rfl⟩))
  simp only [encHp, BitVec.getLsbD_or, hcheck, bitAt_bit]
  fin_cases k <;> simp

/-- Step 2 changes no position but the five Hamming parity positions (R97). -/
theorem encHp_bit_of_ne_hamming (d : DataWord) {j : Nat} (h : ∀ k : Fin 5, j ≠ 2 ^ k.val) :
    (encHp d).getLsbD j = (scatter d).getLsbD j := by
  obtain ⟨h1, h2, h4, h8, h16⟩ : j ≠ 1 ∧ j ≠ 2 ∧ j ≠ 4 ∧ j ≠ 8 ∧ j ≠ 16 := ⟨h 0, h 1, h 2, h 3, h 4⟩
  simp [encHp, bitAt_bit, h1, h2, h4, h8, h16, -BitVec.getLsbD_eq_getElem]

/-- Settles O14: each parity bit stands at its own position of `hp`, every group of `hp` is even, and the other positions
are those of the scattered word. -/
theorem hammingParityBits : Obligations.HammingParityBits := by
  intro d
  exact ⟨fun _ => rfl, rfl, fun k => ⟨encHp_bit_hamming d k, groupCheck_encHp d k⟩,
    fun _ hj => encHp_bit_of_ne_hamming d hj⟩

/-- The XOR of the first `n + 1` bits is bit 0 XOR the first `n` bits of the field above it. -/
theorem xorBits_split_bit_zero {width len n : Nat} (v : BitVec width) (hn : n ≤ len) :
    xorBits v (n + 1) = (v.getLsbD 0 ^^ xorBits (v.extractLsb' 1 len) n) := by
  induction n with
  | zero => simp [xorBits_next_round]
  | succ n ih =>
    have hbit : (v.extractLsb' 1 len).getLsbD n = v.getLsbD (n + 1) := by
      simp [Nat.lt_of_succ_le hn, Nat.add_comm 1 n]
    rw [xorBits_next_round, ih (Nat.le_of_succ_le hn), xorBits_next_round, hbit, Bool.xor_assoc]

/-- With bit 0 still zero, the parity of a word is the XOR of its bits 31 to 1 (R99). -/
theorem par_eq_xorReduce_high {w : Word32} (h : w.getLsbD 0 = false) : par w = xorReduce (w.extractLsb' 1 31) := by
  calc par w = (w.getLsbD 0 ^^ xorReduce (w.extractLsb' 1 31)) := xorBits_split_bit_zero w (le_refl 31)
    _ = xorReduce (w.extractLsb' 1 31) := by rw [h, Bool.false_xor]

/-- Step 3 puts the overall parity bit at bit 0, which step 2 leaves zero (R99). -/
theorem enc_bit_zero (d : DataWord) : (enc d).getLsbD 0 = encP0 d := by
  rw [enc, BitVec.getLsbD_or, encHp_bit_zero, bitAt_bit]
  simp

/-- A valid codeword has an even number of ones (R62). -/
theorem popcount_even_of_validCodeword {w : Word32} (hw : validCodeword w) : popcount w % 2 = 0 := by
  rw [popcount_mod_two, hw.2, Bool.toNat_false]

/-- Settles O16: bit 0 of `hp` is zero, so its parity is that of the bits above and takes bit 0 alone; the word that
results is a valid codeword and so has even weight. -/
theorem overallParityBit : Obligations.OverallParityBit := by
  intro d
  have hzero := encHp_bit_zero d
  exact ⟨hzero, rfl, par_eq_xorReduce_high hzero, rfl, enc_bit_zero d,
    popcount_even_of_validCodeword (validCodeword_enc d)⟩

/-- Different data words have different codewords, since `GATHER` undoes `ENC` (R100). -/
theorem enc_injective : Function.Injective enc := Function.LeftInverse.injective gather_enc

/-- Settles O17: the printed masks and shifts are those of the definitions, and `ENC` is injective. -/
theorem encoderPseudocode : Obligations.EncoderPseudocode :=
  ⟨fun _ => rfl, fun _ _ h => enc_injective h⟩

end Sys2Proof.Machine

/-! ### The decoder's parity and syndrome (`spec/42_decoder.md` R116 to R118) -/

namespace Sys2Proof.Machine

/-- The parity of a word says whether its number of ones is odd. -/
theorem par_eq_true_iff (v : Word32) : par v = true ↔ popcount v % 2 = 1 := by
  rw [popcount_mod_two]
  cases par v <;> decide

theorem par_eq_false_iff_popcount_even (v : Word32) : par v = false ↔ popcount v % 2 = 0 := by
  rw [popcount_mod_two]
  cases par v <;> decide

theorem par_of_oneHot {j : Nat} (hj : j < 32) : par (oneHot j) = true := par_of_bitAt true hj

/-- A valid codeword under an error pattern has the parity of the pattern (R118). -/
theorem decPar_of_validCodeword_xor {w : Word32} (hw : validCodeword w) (err : Word32) :
    decPar (w ^^^ err) = par err := by
  rw [decPar, par_of_xor, hw.2, Bool.false_xor]

/-- Settles O22: the parity of a word is that of its number of ones, and a valid codeword adds nothing to the parity of the
error pattern on it. -/
theorem overallParityCheck : Obligations.OverallParityCheck := by
  refine ⟨fun c => ⟨rfl, par_eq_true_iff c⟩, fun w err hw => ⟨hw.2, ?_⟩⟩
  rw [decPar_of_validCodeword_xor hw, par_eq_true_iff]

/-- Position 0 is in no group, so a flip of it leaves the syndrome (R117). -/
theorem decSyn_xor_oneHot_zero (c : Word32) : decSyn (c ^^^ oneHot 0) = decSyn c := by
  rw [← flip_eq_xor, decSyn_flip c (by decide), BitVec.xor_zero]

/-- Settles O23: bit `k` of the syndrome is the check of group `k`, and position 0 is in no group. -/
theorem syndromeGenerator : Obligations.SyndromeGenerator :=
  ⟨decSyn_bit, decSyn_xor_oneHot_zero⟩

/-- Round by round, bit `k` of the XOR of the indices is the parity of the group's positions seen so far: index `n` has bit
`k` set exactly when position `n` is in group `k`. -/
theorem xorIndices_bit (err : Word32) (k : Fin 5) {n : Nat} (hn : n ≤ 32) :
    (xorIndices err n).getLsbD k.val = xorBits (err &&& coverMask k) n := by
  induction n with
  | zero => simp
  | succ n ih =>
    have hindex : (BitVec.ofNat 5 n).getLsbD k.val = (coverMask k).getLsbD n := by
      rw [coverMask_bit k hn, BitVec.getLsbD_ofNat, decide_eq_true k.isLt, Bool.true_and]
    rw [xorIndices_next_round, xorBits_next_round, BitVec.getLsbD_xor, ih (Nat.le_of_succ_le hn), BitVec.getLsbD_and,
      ← hindex]
    cases err.getLsbD n <;> simp

/-- The syndrome of a word is the XOR of the indices of its ones (R118). -/
theorem decSyn_eq_indexXor (err : Word32) : decSyn err = indexXor err := by
  apply BitVec.eq_of_getLsbD_eq
  intro k hk
  rw [decSyn_bit err ⟨k, hk⟩]
  exact (xorIndices_bit err ⟨k, hk⟩ (le_refl 32)).symm

theorem decSyn_of_validCodeword {w : Word32} (hw : validCodeword w) : decSyn w = 0#5 :=
  ((validCodeword_iff_decSyn_decPar w).1 hw).1

/-- A valid codeword under an error pattern has the syndrome of the pattern (R118). -/
theorem decSyn_of_validCodeword_xor {w : Word32} (hw : validCodeword w) (err : Word32) :
    decSyn (w ^^^ err) = indexXor err := by
  rw [decSyn_of_xor, decSyn_of_validCodeword hw, BitVec.zero_xor, decSyn_eq_indexXor]

/-! ### The decision and its signals (`spec/42_decoder.md` R119 to R123) -/

theorem decNz_of_decSyn_zero {c : Word32} (h : decSyn c = 0#5) : decNz c = false := by
  simp [decNz_eq_decide, h]

theorem decNz_of_decSyn_ne_zero {c : Word32} (h : decSyn c ≠ 0#5) : decNz c = true := by
  simp [decNz_eq_decide, h]

theorem decFix_iff (c : Word32) : decFix c = true ↔ decSyn c ≠ 0#5 ∧ decPar c = true := by
  simp [decFix, decNz_eq_decide]

/-- With the corrector off, no bit is flipped. -/
theorem corrMask_of_not_fix {c : Word32} (h : decFix c = false) : corrMask c = 0#32 := by
  simp [corrMask, h]

/-- With the corrector on, the bit that the syndrome names is flipped. -/
theorem corrMask_of_fix {c : Word32} (h : decFix c = true) : corrMask c = oneHot (decSyn c).toNat := by
  simp [corrMask, h, oneHot]

theorem corrMask_of_decSyn_zero {c : Word32} (h : decSyn c = 0#5) : corrMask c = 0#32 :=
  corrMask_of_not_fix (by simp [decFix, decNz_of_decSyn_zero h])

theorem corrected_of_corrMask_zero {c : Word32} (h : corrMask c = 0#32) : corrected c = c := by
  rw [corrected, h, BitVec.xor_zero]

theorem dec_eq_doubleErrorDetected_iff (c : Word32) : dec c = .doubleErrorDetected ↔ decDed c = true := by
  cases h : decDed c <;> simp [dec, h]

theorem dec_of_not_ded {c : Word32} (h : decDed c = false) : dec c = .data (gather (corrected c)) := by
  simp [dec, h, extracted]

/-- A zero syndrome: the data is extracted as received, whatever the parity (R120). -/
theorem dec_of_decSyn_zero {c : Word32} (h : decSyn c = 0#5) : dec c = .data (gather c) := by
  rw [dec_of_not_ded (by simp [decDed, decNz_of_decSyn_zero h]), corrected_of_corrMask_zero (corrMask_of_decSyn_zero h)]

/-- A nonzero syndrome with odd parity: the bit that the syndrome names is flipped before the extraction (R121). -/
theorem dec_of_decPar_odd {c : Word32} (hsyn : decSyn c ≠ 0#5) (hpar : decPar c = true) :
    dec c = .data (gather (c ^^^ oneHot (decSyn c).toNat)) := by
  rw [dec_of_not_ded (by simp [decDed, hpar]), corrected, corrMask_of_fix ((decFix_iff c).2 ⟨hsyn, hpar⟩)]

/-- A nonzero syndrome with even parity: the double error (R122). -/
theorem dec_of_decPar_even {c : Word32} (hsyn : decSyn c ≠ 0#5) (hpar : decPar c = false) :
    dec c = .doubleErrorDetected :=
  (dec_eq_doubleErrorDetected_iff c).2 ((decDed_iff c).2 ⟨hsyn, hpar⟩)

/-- Settles O25: `nz` and `p` fix the signals, and each arm of `DEC` is its own lemma. -/
theorem decisionTable : Obligations.DecisionTable := by
  intro c
  refine ⟨fun ⟨hsyn, hpar⟩ => ?_, fun ⟨hsyn, hpar⟩ => ?_, fun ⟨hsyn, hpar⟩ => ?_, fun ⟨hsyn, hpar⟩ => ?_⟩
  · have hnz := decNz_of_decSyn_zero hsyn
    exact ⟨hnz, by simp [decFix, hnz], by simp [decDed, hnz], (decStatus_clean_iff c).2 ⟨hsyn, hpar⟩,
      dec_of_decSyn_zero hsyn⟩
  · have hnz := decNz_of_decSyn_zero hsyn
    exact ⟨hnz, by simp [decFix, hnz], by simp [decDed, hnz], (decStatus_p0Error_iff c).2 ⟨hsyn, hpar⟩,
      dec_of_decSyn_zero hsyn⟩
  · have hnz := decNz_of_decSyn_ne_zero hsyn
    exact ⟨hnz, by simp [decFix, hnz, hpar], by simp [decDed, hpar], (decStatus_corrected_iff c).2 ⟨hsyn, hpar⟩,
      dec_of_decPar_odd hsyn hpar⟩
  · have hnz := decNz_of_decSyn_ne_zero hsyn
    exact ⟨hnz, by simp [decFix, hpar], by simp [decDed, hnz, hpar], (decStatus_doubleError_iff c).2 ⟨hsyn, hpar⟩,
      dec_of_decPar_even hsyn hpar⟩

/-- Settles O26: a zero syndrome with even parity is the codeword condition, and a flip of position 0 leaves the syndrome
and inverts the parity. -/
theorem zeroSyndromeArm : Obligations.ZeroSyndromeArm := by
  intro c hsyn
  refine ⟨dec_of_decSyn_zero hsyn, corrMask_of_decSyn_zero hsyn, fun hpar => ?_, fun hpar => ?_⟩
  · exact (validCodeword_iff_decSyn_decPar c).2 ⟨hsyn, hpar⟩
  · refine (validCodeword_iff_decSyn_decPar _).2 ⟨(decSyn_xor_oneHot_zero c).trans hsyn, ?_⟩
    rw [decPar] at hpar ⊢
    rw [par_of_xor, hpar, par_of_oneHot (by decide), Bool.xor_self]

/-- Settles O27: `DEC` raises the double error exactly with `dec_ded`, and then `p = 0` keeps the corrector off. -/
theorem doubleErrorArm : Obligations.DoubleErrorArm := by
  intro c
  refine ⟨(dec_eq_doubleErrorDetected_iff c).trans (decDed_iff c), (dec_eq_doubleErrorDetected_iff c).symm, fun h => ?_⟩
  obtain ⟨-, hpar⟩ := (decDed_iff c).1 ((dec_eq_doubleErrorDetected_iff c).1 h)
  have hmask : corrMask c = 0#32 := corrMask_of_not_fix (by simp [decFix, hpar])
  exact ⟨hmask, corrected_of_corrMask_zero hmask, fun x hx => DecResult.noConfusion (h.symm.trans hx)⟩

/-- A single one counts once. -/
theorem popcount_of_oneHot {j : Nat} (hj : j < 32) : popcount (oneHot j) = 1 := by
  have h : ∀ j : Fin 32, popcount (oneHot j.val) = 1 := by decide
  exact h ⟨j, hj⟩

/-- The corrector never names position 0. -/
theorem decSyn_pos_of_fix {c : Word32} (h : decFix c = true) : 1 ≤ (decSyn c).toNat := by
  obtain ⟨hsyn, -⟩ := (decFix_iff c).1 h
  exact Nat.one_le_iff_ne_zero.2 fun h0 => hsyn (BitVec.eq_of_toNat_eq h0)

theorem corrMask_bit_zero (c : Word32) : (corrMask c).getLsbD 0 = false := by
  cases h : decFix c with
  | false => rw [corrMask_of_not_fix h, BitVec.getLsbD_zero]
  | true => simp [corrMask_of_fix h, oneHot_bit, Nat.ne_of_lt (decSyn_pos_of_fix h), -BitVec.getLsbD_eq_getElem]

/-- Settles O28: the mask is zero with the corrector off and the single bit at the syndrome, which is not 0, with it on. -/
theorem correctionMask : Obligations.CorrectionMask := by
  intro c
  have hlt : (decSyn c).toNat < 32 := (decSyn c).isLt
  refine ⟨rfl, corrMask_bit_zero c, corrMask_of_not_fix, fun hfix => ?_⟩
  have hmask := corrMask_of_fix hfix
  exact ⟨hmask, hmask ▸ popcount_of_oneHot hlt, decSyn_pos_of_fix hfix, Nat.le_of_lt_succ hlt⟩

/-! ### Extraction and the pseudocode (`spec/42_decoder.md` R126, R128) -/

theorem pos_lt (n : Fin 26) : pos n.val < 32 := by
  revert n
  decide

/-- `GATHER` reads no check position (R126). -/
theorem gather_of_agreement {w w' : Word32}
    (h : ∀ j : Fin 32, j.val ∉ checkPositions → w.getLsbD j.val = w'.getLsbD j.val) : gather w = gather w' := by
  apply BitVec.eq_of_getLsbD_eq
  intro j hj
  have hbit := fun v => gather_bit v ⟨j, hj⟩
  rw [hbit, hbit, h ⟨pos j, pos_lt ⟨j, hj⟩⟩ (pos_not_mem_checkPositions ⟨j, hj⟩)]

/-- Settles O30: a bit of `GATHER` is the bit at its position, and no position of a data bit is a check position. -/
theorem extraction : Obligations.Extraction :=
  ⟨fun _ => rfl, fun c n => gather_bit (corrected c) n, fun _ _ => gather_of_agreement⟩

/-- The syndrome as a number: the check of group `k` counts `2^k` (R128). -/
theorem toNat_decSyn (c : Word32) :
    (decSyn c).toNat = 16 * (groupCheck c 4).toNat + 8 * (groupCheck c 3).toNat + 4 * (groupCheck c 2).toNat +
      2 * (groupCheck c 1).toNat + (groupCheck c 0).toNat := by
  unfold decSyn
  generalize groupCheck c 0 = i0
  generalize groupCheck c 1 = i1
  generalize groupCheck c 2 = i2
  generalize groupCheck c 3 = i3
  generalize groupCheck c 4 = i4
  revert i0 i1 i2 i3 i4
  decide

/-- `GATHER` keeps the low 26 bits of the four shifted ranges, by its formula (`spec/30_encoding.md` R66). -/
theorem gather_eq_extract (w : Word32) :
    gather w = ((w &&& posMaskA) >>> 3 ||| (w &&& posMaskB) >>> 4 ||| (w &&& posMaskC) >>> 5 |||
      (w &&& posMaskD) >>> 6).extractLsb' 0 26 :=
  BitVec.setWidth_eq_extractLsb' (by decide)

/-- `DEC` by the three arms of the pseudocode (R128). -/
theorem dec_eq_arms (c : Word32) :
    dec c = if (decSyn c).toNat = 0 then .data (gather c)
      else if par c = true then .data (gather (c ^^^ oneHot (decSyn c).toNat))
      else .doubleErrorDetected := by
  have hzero : (decSyn c).toNat = 0 ↔ decSyn c = 0#5 := BitVec.toNat_inj (y := 0#5)
  split
  next h => exact dec_of_decSyn_zero (hzero.1 h)
  next h =>
    have hsyn : decSyn c ≠ 0#5 := fun h0 => h (hzero.2 h0)
    split
    next hpar => exact dec_of_decPar_odd hsyn hpar
    next hpar => exact dec_of_decPar_even hsyn (Bool.eq_false_iff.2 hpar)

/-- Settles O32: the printed sum is the syndrome as a number, the printed shifts are `GATHER`, and the arms are those of
`DEC`. -/
theorem decoderPseudocode : Obligations.DecoderPseudocode := by
  intro c
  have harms := dec_eq_arms c
  rw [toNat_decSyn, gather_eq_extract, gather_eq_extract] at harms
  exact harms

/-! ### Any error pattern on a valid codeword (`spec/42_decoder.md` R132) -/

/-- A flip inverts its own position only. -/
theorem flip_bit (v : Word32) {j : Nat} (hj : j < 32) (n : Nat) :
    (flip v j).getLsbD n = (v.getLsbD n ^^ decide (n = j)) := by
  rw [flip_eq_xor, BitVec.getLsbD_xor, oneHot_bit]
  by_cases h : n = j <;> simp [h, hj]

/-- Flipping a one away takes one from the count, once its position has been seen. -/
theorem countBits_flip_of_one {v : Word32} {j : Nat} (hj : j < 32) (hone : v.getLsbD j = true) (n : Nat) :
    countBits v n = countBits (flip v j) n + (if j < n then 1 else 0) := by
  induction n with
  | zero => rfl
  | succ n ih =>
    rw [countBits_next_round, countBits_next_round, ih, flip_bit v hj]
    rcases Nat.lt_trichotomy j n with h | rfl | h
    · simp [h, Nat.ne_of_gt h, Nat.lt_succ_of_lt h]
      omega
    · simp [hone]
    · simp [Nat.ne_of_lt h, show ¬ j < n by omega, show ¬ j < n + 1 by omega]

theorem popcount_flip_of_one {v : Word32} {j : Nat} (hj : j < 32) (hone : v.getLsbD j = true) :
    popcount v = popcount (flip v j) + 1 := by
  simpa [popcount, hj] using countBits_flip_of_one hj hone 32

theorem exists_one_of_ne_zero {v : Word32} (h : v ≠ 0#32) : ∃ j < 32, v.getLsbD j = true := by
  by_contra hnone
  refine h (BitVec.eq_of_getLsbD_eq fun j hj => ?_)
  rw [BitVec.getLsbD_zero, Bool.eq_false_iff]
  exact fun hone => hnone ⟨j, hj, hone⟩

/-- A valid codeword other than 0 has at least four ones: its syndrome would name the one that is left after one flip, so a
second flip leaves a one again, and the number of ones is even (R132). -/
theorem four_le_popcount_of_validCodeword {v : Word32} (hv : validCodeword v) (hne : v ≠ 0#32) : 4 ≤ popcount v := by
  have heven := popcount_even_of_validCodeword hv
  obtain ⟨a, ha, hone_a⟩ := exists_one_of_ne_zero hne
  have hcount_a := popcount_flip_of_one ha hone_a
  have hsyn : decSyn (flip v a) = BitVec.ofNat 5 a := by
    rw [decSyn_flip v ha, decSyn_of_validCodeword hv, BitVec.zero_xor]
  have hne_a : flip v a ≠ 0#32 := by
    intro h0
    have hzero : popcount (flip v a) = 0 := by rw [h0]; decide
    omega
  obtain ⟨b, hb, hone_b⟩ := exists_one_of_ne_zero hne_a
  have hcount_b := popcount_flip_of_one hb hone_b
  have hne_b : flip (flip v a) b ≠ 0#32 := by
    intro h0
    have hlast : flip v a = oneHot b := BitVec.xor_eq_zero_iff.1 h0
    have hab : a = b := by
      rw [hlast, decSyn_of_oneHot hb] at hsyn
      have hnum := congrArg BitVec.toNat hsyn
      simp only [BitVec.toNat_ofNat] at hnum
      omega
    rw [← hab, flip_bit v ha, hone_a] at hone_b
    simp at hone_b
  obtain ⟨e, he, hone_e⟩ := exists_one_of_ne_zero hne_b
  have hcount_e := popcount_flip_of_one he hone_e
  omega

/-- The valid codewords are closed under XOR (`spec/43_code_properties.md` R152). -/
theorem validCodeword_xor {a b : Word32} (ha : validCodeword a) (hb : validCodeword b) : validCodeword (a ^^^ b) := by
  obtain ⟨ha_group, ha_par⟩ := ha
  obtain ⟨hb_group, hb_par⟩ := hb
  constructor
  · intro k
    rw [groupCheck_of_xor, ha_group, hb_group, Bool.xor_self]
  · rw [par_of_xor, ha_par, hb_par, Bool.xor_self]

/-- A codeword pattern that flips anything changes the data (R132). -/
theorem gather_xor_ne_of_validCodeword {w err : Word32} (hw : validCodeword w) (herr : validCodeword err)
    (hne : err ≠ 0#32) : gather (w ^^^ err) ≠ gather w := by
  intro h
  have hsame : w ^^^ err = w := eq_of_gather_eq (validCodeword_xor hw herr) hw h
  exact hne ((BitVec.xor_right_inj w).1 (hsame.trans BitVec.xor_zero.symm))

/-- Settles O33: the syndrome and the parity are those of the pattern and choose the arm of `DEC`; where both vanish the
pattern is itself a valid codeword. -/
theorem outcomeOfAnyErrorPattern : Obligations.OutcomeOfAnyErrorPattern := by
  intro w err hw
  have hsyn := decSyn_of_validCodeword_xor hw err
  have hpar := decPar_of_validCodeword_xor hw err
  rw [← par_eq_true_iff, ← par_eq_false_iff_popcount_even, ← hpar, ← hsyn]
  refine ⟨fun ⟨hp, hs⟩ => ?_, fun ⟨hp, hs⟩ => ?_, fun ⟨hp, hs⟩ => ?_, fun ⟨hp, hs⟩ => ?_⟩
  · exact ⟨(decStatus_p0Error_iff _).2 ⟨hs, hp⟩, dec_of_decSyn_zero hs⟩
  · exact ⟨(decStatus_corrected_iff _).2 ⟨hs, hp⟩, dec_of_decPar_odd hs hp⟩
  · exact ⟨(decStatus_doubleError_iff _).2 ⟨hs, hp⟩, dec_of_decPar_even hs hp⟩
  · have herr : validCodeword err := by
      rw [validCodeword_iff_decSyn_decPar, decSyn_eq_indexXor]
      exact ⟨hsyn.symm.trans hs, hpar.symm.trans hp⟩
    exact ⟨(decStatus_clean_iff _).2 ⟨hs, hp⟩, dec_of_decSyn_zero hs, herr,
      fun hne => ⟨four_le_popcount_of_validCodeword herr hne, gather_xor_ne_of_validCodeword hw herr hne⟩⟩

/-! ### The decoder's ports (`spec/42_decoder.md` R130, R131) -/

theorem decDed_eq (c : Word32) : decDed c = (decide (decSyn c ≠ 0#5) && !par c) := by
  rw [decDed, decNz_eq_decide, decPar]

/-- The data wires without a double error (R130). -/
theorem decData_of_not_ded {c : Word32} (h : decDed c = false) : decData c = gather (corrected c) := by
  simp [decData, h, extracted]

/-- The data wires under a double error carry the free value (R131). -/
theorem decData_of_ded {c : Word32} (h : decDed c = true) : decData c = Config.dedData c := by
  simp [decData, h]

/-- Settles O53: each output is its function of the word on `dec_code`, and `dec_ded` chooses what the data wires carry. -/
theorem decoderPorts : Obligations.DecoderPorts := by
  intro s c hc
  have hded : s.decDedOut = some (decDed c) := congrArg (Option.map decDed) hc
  have hdata : s.decDataOut = some (decData c) := congrArg (Option.map decData) hc
  refine ⟨congrArg (Option.map decPar) hc, congrArg (Option.map decSyn) hc,
    ⟨decStatus c, congrArg (Option.map decStatus) hc, ?_, decStatus_bit_zero c⟩, ?_, fun h => ?_, fun h => ?_⟩
  · rw [decStatus_bit_one, decNz_eq_decide]
  · rw [hded, decDed_eq]
  · rw [hdata, decData_of_not_ded (Option.some.inj (hded.symm.trans h))]
  · rw [hdata, decData_of_ded (Option.some.inj (hded.symm.trans h))]

end Sys2Proof.Machine

/-! ### The parity fold (`spec/40_parity.md` R87, `spec/43_code_properties.md` R148) -/

namespace Sys2Proof.Machine

/-- `n` more rounds of the loop are `n` rounds over the bits moved down. -/
theorem xorBits_add {width : Nat} (v : BitVec width) (m n : Nat) :
    xorBits v (m + n) = (xorBits v m ^^ xorBits (v >>> m) n) := by
  induction n with
  | zero => simp
  | succ n ih =>
    rw [← Nat.add_assoc, xorBits_next_round, ih, xorBits_next_round, BitVec.getLsbD_ushiftRight, Bool.xor_assoc]

/-- One fold halves the number of bits and keeps their XOR. -/
theorem xorBits_fold {width : Nat} (v : BitVec width) (n : Nat) : xorBits (v ^^^ (v >>> n)) n = xorBits v (n + n) := by
  rw [xorBits_of_xor, xorBits_add]

/-- Three folds leave the XOR of the 32 bits in the low four. -/
theorem xorBits_foldBy4 (v : Word32) : xorBits (foldBy4 v) 4 = xorReduce v :=
  calc xorBits (foldBy4 v) 4 = xorBits (foldBy8 v) 8 := xorBits_fold (foldBy8 v) 4
    _ = xorBits (foldBy16 v) 16 := xorBits_fold (foldBy16 v) 8
    _ = xorReduce v := xorBits_fold v 16

/-- The table gives each nibble its XOR (`spec/40_parity.md` R88). -/
theorem nibbleParity_bit (n : BitVec 4) : nibbleParity.getLsbD n.toNat = xorReduce n := by
  revert n
  decide

/-- The fold looks its low nibble up in the table (R87). -/
theorem parFold_eq_nibbleParity_bit (v : Word32) :
    parFold v = nibbleParity.getLsbD ((foldBy4 v).setWidth 4).toNat := by
  have hnibble : (foldBy4 v &&& 0xF#32).toNat = ((foldBy4 v).setWidth 4).toNat := by
    rw [BitVec.toNat_and, BitVec.toNat_setWidth]
    exact Nat.and_two_pow_sub_one_eq_mod _ 4
  rw [parFold, hnibble, BitVec.getLsbD_ushiftRight, Nat.add_zero]

theorem parFold_eq_xorReduce (v : Word32) : parFold v = xorReduce v :=
  calc parFold v = xorReduce ((foldBy4 v).setWidth 4) := by rw [parFold_eq_nibbleParity_bit, nibbleParity_bit]
    _ = xorBits (foldBy4 v) 4 := xorBits_of_agreement _ _ 4 fun j hj => by
      rw [BitVec.getLsbD_setWidth, decide_eq_true hj, Bool.true_and]
    _ = xorReduce v := xorBits_foldBy4 v

/-- A bit after the three folds is the XOR of the eight bits that stand four apart (R87). -/
theorem foldBy4_bit (v : Word32) (j : Nat) : (foldBy4 v).getLsbD j =
    (v.getLsbD j ^^ v.getLsbD (j + 4) ^^ v.getLsbD (j + 8) ^^ v.getLsbD (j + 12) ^^
      v.getLsbD (j + 16) ^^ v.getLsbD (j + 20) ^^ v.getLsbD (j + 24) ^^ v.getLsbD (j + 28)) := by
  have h16 (i : Nat) : (foldBy16 v).getLsbD i = (v.getLsbD i ^^ v.getLsbD (i + 16)) := by
    rw [foldBy16, BitVec.getLsbD_xor, BitVec.getLsbD_ushiftRight, Nat.add_comm 16]
  have h8 (i : Nat) : (foldBy8 v).getLsbD i = ((foldBy16 v).getLsbD i ^^ (foldBy16 v).getLsbD (i + 8)) := by
    rw [foldBy8, BitVec.getLsbD_xor, BitVec.getLsbD_ushiftRight, Nat.add_comm 8]
  have h4 : (foldBy4 v).getLsbD j = ((foldBy8 v).getLsbD j ^^ (foldBy8 v).getLsbD (j + 4)) := by
    rw [foldBy4, BitVec.getLsbD_xor, BitVec.getLsbD_ushiftRight, Nat.add_comm 4]
  simp only [h4, h8, h16, Nat.add_assoc, Nat.reduceAdd, Bool.xor_assoc, Bool.xor_left_comm]

/-- Settles O9: each fold keeps the XOR of the bits that it leaves, and the table gives the XOR of the last four. -/
theorem parityFoldIsXorReduction : Obligations.ParityFoldIsXorReduction := by
  intro v
  have hfold := parFold_eq_xorReduce v
  refine ⟨hfold, ?_, fun t => foldBy4_bit v t.val⟩
  rw [hfold]
  exact (popcount_mod_two v).symm

end Sys2Proof.Machine

/-! ### Codewords with no, one and two flips (`spec/43_code_properties.md` R145 to R147) -/

namespace Sys2Proof.Machine

@[simp] theorem decSyn_enc (d : DataWord) : decSyn (enc d) = 0#5 := decSyn_of_validCodeword (validCodeword_enc d)

@[simp] theorem decPar_enc (d : DataWord) : decPar (enc d) = false := (validCodeword_enc d).2

/-- Decoding undoes encoding (R145). -/
@[simp] theorem dec_enc (d : DataWord) : dec (enc d) = .data d := by
  rw [dec_of_decSyn_zero (decSyn_enc d), gather_enc]

/-- Settles O35: an encoder output is a valid codeword, so it takes the clean arm of `DEC`, and `GATHER` undoes `ENC`. -/
theorem roundTripOfEveryDataWord : Obligations.RoundTripOfEveryDataWord :=
  fun d => ⟨dec_enc d, decSyn_enc d, decPar_enc d, (decStatus_clean_iff _).2 ⟨decSyn_enc d, decPar_enc d⟩⟩

/-- A flip inverts the overall parity. -/
theorem decPar_flip (w : Word32) {j : Nat} (hj : j < 32) : decPar (flip w j) = !decPar w := by
  rw [decPar, flip_eq_xor, par_of_xor, par_of_oneHot hj, Bool.xor_true, decPar]

/-- A second flip of the same position undoes the first. -/
theorem flip_flip_same (w : Word32) (j : Nat) : flip (flip w j) j = w := by
  rw [flip_eq_xor, flip_eq_xor, BitVec.xor_assoc, BitVec.xor_self, BitVec.xor_zero]

/-- A flip of position 0 leaves the data. -/
theorem gather_flip_zero (w : Word32) : gather (flip w 0) = gather w := by
  refine gather_of_agreement fun j hj => ?_
  have hne : j.val ≠ 0 := fun h0 => hj (mem_checkPositions_iff.2 (.inl h0))
  rw [flip_bit w (by decide), decide_eq_false hne, Bool.xor_false]

/-- The syndrome of a codeword with one flip is the number of the flipped position. -/
theorem decSyn_flip_enc (d : DataWord) {j : Nat} (hj : j < 32) : decSyn (flip (enc d) j) = BitVec.ofNat 5 j := by
  rw [decSyn_flip _ hj, decSyn_enc, BitVec.zero_xor]

/-- A position other than 0 has a nonzero number in five bits. -/
theorem ofNat_position_ne_zero {j : Nat} (hj : j < 32) (hne : j ≠ 0) : BitVec.ofNat 5 j ≠ 0#5 := by
  intro h
  have hnum := congrArg BitVec.toNat h
  rw [BitVec.toNat_ofNat, Nat.mod_eq_of_lt hj] at hnum
  exact hne hnum

/-- Settles O36: a flip adds its position to the syndrome and inverts the parity; position 0 takes the arm of a zero
syndrome and carries no data, and at every other position the corrector flips the same position back. -/
theorem singleFlipIsCorrected : Obligations.SingleFlipIsCorrected := by
  intro d j
  have hsyn := decSyn_flip_enc d j.isLt
  have hnum : (decSyn (flip (enc d) j.val)).toNat = j.val := by
    rw [hsyn, BitVec.toNat_ofNat, Nat.mod_eq_of_lt j.isLt]
  have hpar : decPar (flip (enc d) j.val) = true := by
    rw [decPar_flip _ j.isLt, decPar_enc, Bool.not_false]
  by_cases h0 : j.val = 0
  · have hzero : decSyn (flip (enc d) j.val) = 0#5 := by rw [hsyn, h0]
    refine ⟨?_, hnum, hpar, ?_⟩
    · rw [dec_of_decSyn_zero hzero, h0, gather_flip_zero, gather_enc]
    · rw [if_pos h0]
      exact (decStatus_p0Error_iff _).2 ⟨hzero, hpar⟩
  · have hne : decSyn (flip (enc d) j.val) ≠ 0#5 := hsyn ▸ ofNat_position_ne_zero j.isLt h0
    refine ⟨?_, hnum, hpar, ?_⟩
    · rw [dec_of_decPar_odd hne hpar, hnum, ← flip_eq_xor, flip_flip_same, gather_enc]
    · rw [if_neg h0]
      exact (decStatus_corrected_iff _).2 ⟨hne, hpar⟩

/-- Settles O37: two flips leave the parity even and add two different numbers, whose XOR is not 0, to the syndrome. -/
theorem doubleFlipIsDetected : Obligations.DoubleFlipIsDetected := by
  intro d a b hab
  have hxor : a.val ^^^ b.val ≠ 0 := Nat.xor_ne_zero_iff.2 (Nat.ne_of_lt hab)
  have hsyn : decSyn (flip (flip (enc d) a.val) b.val) = BitVec.ofNat 5 (a.val ^^^ b.val) := by
    rw [decSyn_flip _ b.isLt, decSyn_flip_enc d a.isLt, BitVec.ofNat_xor]
  have hne : decSyn (flip (flip (enc d) a.val) b.val) ≠ 0#5 :=
    hsyn ▸ ofNat_position_ne_zero (Nat.xor_lt_two_pow (n := 5) a.isLt b.isLt) hxor
  have hpar : decPar (flip (flip (enc d) a.val) b.val) = false := by
    rw [decPar_flip _ b.isLt, decPar_flip _ a.isLt, decPar_enc, Bool.not_not]
  have hdec := dec_of_decPar_even hne hpar
  exact ⟨hdec, fun x hx => DecResult.noConfusion (hdec.symm.trans hx), hsyn, hxor, hpar,
    (decStatus_doubleError_iff _).2 ⟨hne, hpar⟩⟩

/-- A valid codeword is the encoding of the data it carries. -/
theorem enc_eq_of_gather_eq {w : Word32} {d : DataWord} (hw : validCodeword w) (h : gather w = d) : enc d = w :=
  h ▸ enc_gather hw

theorem enc_zero : enc 0#26 = 0#32 := enc_eq_of_gather_eq (by decide) (by decide)

/-- The largest data word has all 32 bits of its codeword set (R150). -/
theorem enc_largest : enc 0x3FFFFFF#26 = 0xFFFFFFFF#32 := enc_eq_of_gather_eq (by decide) (by decide)

/-- Settles O39: the words 0 and all ones are valid and carry the two data words, so they are the codewords of these, and
both decode back. -/
theorem boundaryDataWords : Obligations.BoundaryDataWords :=
  ⟨enc_zero, enc_zero ▸ dec_enc 0#26, enc_largest, enc_largest ▸ dec_enc 0x3FFFFFF#26⟩

end Sys2Proof.Machine

/-! ### The range check of `ENC` (`spec/43_code_properties.md` R151) -/

namespace Sys2Proof

/-- The six high bits of an operand as a number. -/
theorem toNat_argHigh (a : Word32) : (argHigh a).toNat = a.toNat / 2 ^ 26 := by
  have hlt := a.isLt
  rw [argHigh, BitVec.extractLsb'_toNat, Nat.shiftRight_eq_div_pow]
  omega

/-- An operand is out of the range of `ENC` exactly from `2^26` on. -/
theorem argHigh_ne_zero_iff (a : Word32) : argHigh a ≠ 0#6 ↔ 2 ^ 26 ≤ a.toNat := by
  rw [Ne, ← BitVec.toNat_inj, toNat_argHigh, BitVec.toNat_ofNat]
  omega

/-- An `ENC` request out of range is rejected. -/
theorem envelope_enc_out_of_range {a : Word32} (h : 2 ^ 26 ≤ a.toNat) :
    Machine.envelope (requestWord 0b01#2 a) = .rejected .outOfRange := by
  have hdecode : decode (requestWord 0b01#2 a) = .error .outOfRange := by
    simp [decode, (argHigh_ne_zero_iff a).2 h]
  rw [Machine.envelope, hdecode]

/-- Settles O45: an operand from `2^26` on has a nonzero high field, and `2^26 - 1` is the operand of the largest data
word. -/
theorem outOfRangeDataIsRejected : Obligations.OutOfRangeDataIsRejected := by
  refine ⟨fun n hlow hhigh => envelope_enc_out_of_range ?_, envelope_enc_out_of_range (by decide),
    envelope_enc_out_of_range (by decide), ?_⟩
  · rwa [BitVec.toNat_ofNat, Nat.mod_eq_of_lt hhigh]
  · have hresponse : Machine.envelope (encode (.enc 0x3FFFFFF#26)) = .codeword 0xFFFFFFFF#32 := by
      rw [envelope_encode, Machine.responseOf, Machine.enc_largest]
    exact hresponse

end Sys2Proof

/-! ### The rows of the opcode map and the decoder (`spec/30_encoding.md` R70) -/

namespace Sys2Proof

theorem mnemonic_eq_par_iff (i : Instr) : i.mnemonic = "PAR" ↔ ∃ v, i = .par v := by
  cases i <;> simp [Instr.mnemonic]

theorem mnemonic_eq_enc_iff (i : Instr) : i.mnemonic = "ENC" ↔ ∃ d, i = .enc d := by
  cases i <;> simp [Instr.mnemonic]

theorem mnemonic_eq_dec_iff (i : Instr) : i.mnemonic = "DEC" ↔ ∃ c, i = .dec c := by
  cases i <;> simp [Instr.mnemonic]

/-- A row of the opcode map holds exactly the requests that decode to an instruction with its mnemonic. -/
theorem matchesWord_iff {row : OpcodeRow} (hrow : row ∈ opcodeTable) (r : RequestWord) :
    row.matchesWord r = true ↔ ∃ i, decode r = .ok i ∧ i.mnemonic = row.mnemonic := by
  simp only [opcodeTable, List.mem_cons, List.not_mem_nil, or_false] at hrow
  obtain rfl | rfl | rfl := hrow
  · simpa [OpcodeRow.matchesWord, mnemonic_eq_par_iff] using par_row_iff r
  · simpa [OpcodeRow.matchesWord, mnemonic_eq_enc_iff] using enc_row_iff r
  · simpa [OpcodeRow.matchesWord, mnemonic_eq_dec_iff] using dec_row_iff r

/-- Settles O47: decoding and encoding are inverse, and a row holds the requests of its mnemonic. -/
theorem decodeAndEncodeAgree : Obligations.DecodeAndEncodeAgree := by
  refine ⟨fun i _ => decode_encode i, fun r i h => encode_of_decode h, fun r i h row hrow => ?_, ?_⟩
  · rw [matchesWord_iff hrow, h]
    simp [eq_comm]
  · rintro r ⟨row, hrow, hmatch⟩
    obtain ⟨i, h, -⟩ := (matchesWord_iff hrow r).1 hmatch
    exact ⟨i, h⟩

end Sys2Proof

/-! ### One step of the interface (`spec/20_memory.md` R46, R53) -/

namespace Sys2Proof.Machine

/-- Evaluating an instruction answers with the value of the operation and leaves the requests that wait. -/
theorem exec_answers (i : Instr) (s : State) :
    ∃ t, exec i s = .next t ∧ t.requests = s.requests ∧ t.responses = s.responses ++ [responseOf i] := by
  cases i with
  | par v => exact ⟨_, rfl, rfl, rfl⟩
  | enc d => exact ⟨_, rfl, rfl, rfl⟩
  | dec c => exact ⟨_, rfl, rfl, rfl⟩

theorem takeRequest_of_cons {s : State} {r : RequestWord} {rest : List RequestWord} (h : s.requests = r :: rest) :
    takeRequest s = some (r, { s with requests := rest }) :=
  (takeRequest_some_iff s _ r).2 ⟨h, rfl⟩

/-- With no request there is nothing to evaluate. -/
theorem step_of_no_request {s : State} (h : s.requests = []) : step s = .next s := by
  rw [step, (takeRequest_none_iff s).2 h]

/-- A step evaluates the oldest request where the decoder accepts it. -/
theorem step_of_accepted {s : State} {r : RequestWord} {rest : List RequestWord} {i : Instr}
    (hs : s.requests = r :: rest) (hr : decode r = .ok i) : step s = exec i { s with requests := rest } := by
  simp only [step, takeRequest_of_cons hs, hr]

/-- A step answers the oldest request by its rejection where the decoder refuses it (`spec/30_encoding.md` R71). -/
theorem step_of_rejected {s : State} {r : RequestWord} {rest : List RequestWord} {why : RejectReason}
    (hs : s.requests = r :: rest) (hr : decode r = .error why) :
    step s = .next (rejectRequest why { s with requests := rest }) := by
  simp only [step, takeRequest_of_cons hs, hr]

theorem envelope_of_accepted {r : RequestWord} {i : Instr} (h : decode r = .ok i) : envelope r = responseOf i := by
  rw [envelope, h]

theorem envelope_of_rejected {r : RequestWord} {why : RejectReason} (h : decode r = .error why) :
    envelope r = .rejected why := by
  rw [envelope, h]

/-- Whether it is accepted or not, the oldest request is taken and its own response is added. -/
theorem step_answers {s : State} {r : RequestWord} {rest : List RequestWord} (hs : s.requests = r :: rest) :
    ∃ t, step s = .next t ∧ t.requests = rest ∧ t.responses = s.responses ++ [envelope r] := by
  cases hr : decode r with
  | ok i =>
    rw [step_of_accepted hs hr, envelope_of_accepted hr]
    exact exec_answers i _
  | error why =>
    rw [step_of_rejected hs hr, envelope_of_rejected hr]
    exact ⟨_, rfl, rfl, rfl⟩

/-- The only response that carries a codeword is that of the encoder. -/
theorem responseOf_eq_codeword_iff (i : Instr) (w : Word32) :
    responseOf i = .codeword w ↔ ∃ d, i = .enc d ∧ enc d = w := by
  cases i with
  | par v => simp [responseOf]
  | enc d => simp [responseOf]
  | dec c => cases h : dec c <;> simp [responseOf, decResponse, h]

/-- Every codeword that a request is answered with is valid (`spec/41_encoder.md` R95). -/
theorem validCodeword_of_envelope {r : RequestWord} {w : Word32} (h : envelope r = .codeword w) : validCodeword w := by
  cases hr : decode r with
  | ok i =>
    rw [envelope_of_accepted hr, responseOf_eq_codeword_iff] at h
    obtain ⟨d, -, rfl⟩ := h
    exact validCodeword_enc d
  | error why =>
    rw [envelope_of_rejected hr] at h
    cases h

/-- Settles O58: a step adds no response, or the response of one request, and that one carries no invalid codeword. -/
theorem stepKeepsReturnedCodewordsValid : Obligations.StepKeepsReturnedCodewordsValid := by
  intro s t hvalid hstep
  cases hs : s.requests with
  | nil =>
    rw [step_of_no_request hs] at hstep
    cases hstep
    exact hvalid
  | cons r rest =>
    obtain ⟨t', hstep', -, hresponses⟩ := step_answers hs
    obtain rfl : t' = t := Host.Outcome.next.inj (hstep'.symm.trans hstep)
    intro w hw
    rw [hresponses, List.mem_append, List.mem_singleton] at hw
    obtain hold | hnew := hw
    · exact hvalid w hold
    · exact validCodeword_of_envelope hnew.symm

/-- Settles O51: an empty queue stays empty, and the oldest request of any other is answered. -/
theorem everyStepReturns : Obligations.EveryStepReturns := by
  intro s
  cases hs : s.requests with
  | nil => exact ⟨s, step_of_no_request hs, hs, [], by simp⟩
  | cons r rest =>
    obtain ⟨t, hstep, hrequests, hresponses⟩ := step_answers hs
    exact ⟨t, hstep, hrequests, [envelope r], hresponses, by simp⟩

/-- A run goes on from the state that its first step answers. -/
theorem run_of_step {s t : State} (h : step s = .next t) (k : Nat) : core.run (k + 1) s = core.run k t := by
  have hcore : core.step s = .next t := h
  simp only [Host.Core.run, hcore]

/-- Settles O52, by induction on the number of steps: each adds the response of the request that it takes. -/
theorem eachResponseDependsOnItsRequestAlone : Obligations.EachResponseDependsOnItsRequestAlone := by
  intro k
  induction k with
  | zero => exact fun s => ⟨s, rfl, by simp, rfl⟩
  | succ k ih =>
    intro s
    cases hs : s.requests with
    | nil =>
      obtain ⟨t, hrun, hresponses, hrequests⟩ := ih s
      exact ⟨t, (run_of_step (step_of_no_request hs) k).trans hrun, by simpa [hs] using hresponses,
        by simpa [hs] using hrequests⟩
    | cons r rest =>
      obtain ⟨s', hstep, hrequests', hresponses'⟩ := step_answers hs
      obtain ⟨t, hrun, hresponses, hrequests⟩ := ih s'
      refine ⟨t, (run_of_step hstep k).trans hrun, ?_, ?_⟩
      · simp [hresponses, hresponses', hrequests']
      · rw [hrequests, hrequests', List.drop_succ_cons]

theorem decode_reserved (a : Word32) : decode (requestWord 0b11#2 a) = .error .reservedOp := by
  simp [decode]

theorem decode_enc_of_argHigh_ne_zero {a : Word32} (h : argHigh a ≠ 0#6) :
    decode (requestWord 0b01#2 a) = .error .outOfRange := by
  simp [decode, h]

/-- Settles O44: the decoder refuses both requests, and a rejection adds its response only. -/
theorem illegalRequestsAreRejected : Obligations.IllegalRequestsAreRejected :=
  fun a _ _ => ⟨fun hs => step_of_rejected hs (decode_reserved a),
    fun ha hs => step_of_rejected hs (decode_enc_of_argHigh_ne_zero ha)⟩

/-- The word of an instruction, presented as the next request, stands before those that wait. -/
theorem withFetchWord_encode (s : State) (i : Instr) :
    s.withFetchWord 40 (encode i).toNat = s.presentNext (encode i) := by
  rw [State.withFetchWord, requestOfNat_of_request]

/-- Settles O50: the word of an instruction decodes to it, so the step after it is presented runs it. -/
theorem stepRunsTheDecodedRequest : Obligations.StepRunsTheDecodedRequest := by
  refine ⟨fun s r rest i => step_of_accepted, fun s => step_of_no_request, withFetchWord_encode, fun s i => ?_⟩
  rw [withFetchWord_encode]
  exact step_of_accepted (State.presentNext_requests s _) (decode_encode i)

end Sys2Proof.Machine

/-! ### The checks of a request by number (`spec/60_exceptions.md` R173) -/

namespace Sys2Proof

theorem toNat_reqOp (r : RequestWord) : (reqOp r).toNat = r.opNumber := by
  have hlt := r.isLt
  rw [reqOp, BitVec.extractLsb'_toNat, Nat.shiftRight_eq_div_pow, RequestWord.opNumber]
  omega

theorem toNat_reqArg (r : RequestWord) : (reqArg r).toNat = r.argNumber := by
  rw [reqArg, BitVec.extractLsb'_toNat, Nat.shiftRight_zero, RequestWord.argNumber]

theorem reqOp_eq_iff (r : RequestWord) (op : BitVec 2) : reqOp r = op ↔ r.opNumber = op.toNat := by
  rw [← BitVec.toNat_inj, toNat_reqOp]

theorem decode_eq_reservedOp_iff (r : RequestWord) : decode r = .error .reservedOp ↔ r.opNumber = 3 := by
  refine Iff.trans ⟨fun h => ?_, fun h => ?_⟩ (reqOp_eq_iff r 0b11#2)
  · obtain ⟨hop, -⟩ | ⟨-, -, hwhy⟩ := Machine.decode_error_cases h
    · exact hop
    · cases hwhy
  · rw [decode, if_pos h]

theorem decode_eq_outOfRange_iff (r : RequestWord) :
    decode r = .error .outOfRange ↔ r.opNumber = 1 ∧ 2 ^ 26 ≤ r.argNumber := by
  have hselect : r.opNumber = 1 ↔ reqOp r = 0b01#2 := (reqOp_eq_iff r 0b01#2).symm
  rw [hselect, ← toNat_reqArg, ← argHigh_ne_zero_iff]
  constructor
  · intro h
    obtain ⟨-, hwhy⟩ | ⟨hop, hhigh, -⟩ := Machine.decode_error_cases h
    · cases hwhy
    · exact ⟨hop, hhigh⟩
  · rintro ⟨hop, hhigh⟩
    simp [decode, hop, hhigh]

/-- A request is well formed exactly when neither condition of rejection holds. -/
theorem wellFormed_iff (r : RequestWord) :
    r.wellFormed = true ↔ r.opNumber ≠ 3 ∧ ¬ (r.opNumber = 1 ∧ 2 ^ 26 ≤ r.argNumber) := by
  simp [RequestWord.wellFormed, RequestWord.opDefined, RequestWord.encInRange, imp_iff_not_or]

/-- The decoder accepts exactly the well-formed requests. -/
theorem exists_decode_ok_iff (r : RequestWord) : (∃ i, decode r = .ok i) ↔ r.wellFormed = true := by
  rw [wellFormed_iff, Ne, ← decode_eq_reservedOp_iff, ← decode_eq_outOfRange_iff]
  cases h : decode r with
  | ok i => simp
  | error why => cases why <;> simp

end Sys2Proof

namespace Sys2Proof.Machine

theorem responseOf_ne_rejected (i : Instr) (why : RejectReason) : responseOf i ≠ .rejected why := by
  cases i with
  | par v => simp [responseOf]
  | enc d => simp [responseOf]
  | dec c => cases h : dec c <;> simp [responseOf, decResponse, h]

/-- A request is answered by a value of its operation exactly when it is not rejected. -/
theorem exists_responseOf_iff (r : RequestWord) :
    (∃ i, decode r = .ok i ∧ envelope r = responseOf i) ↔ ∀ why, envelope r ≠ .rejected why := by
  constructor
  · rintro ⟨i, -, hresponse⟩ why
    rw [hresponse]
    exact responseOf_ne_rejected i why
  · intro hne
    cases hr : decode r with
    | ok i => exact ⟨i, rfl, envelope_of_accepted hr⟩
    | error why => exact absurd (envelope_of_rejected hr) (hne why)

/-- The name of a status code, the inverse of `statusCode` (`spec/30_encoding.md` R64). -/
def statusName (code : BitVec 2) : Status :=
  match code.getLsbD 1, code.getLsbD 0 with
  | false, false => .clean
  | false, true => .p0Error
  | true, true => .corrected
  | true, false => .doubleError

theorem statusCode_statusName (code : BitVec 2) : statusCode (statusName code) = code := by
  revert code
  decide

theorem statusName_statusCode (st : Status) : statusName (statusCode st) = st := by
  cases st <;> rfl

/-- Settles O46: each rejection is its own condition on the two numbers, and the four codes are all the two-bit
values. -/
theorem requestChecks : Obligations.RequestChecks := by
  refine ⟨fun c => ⟨statusName (decStatus c), (statusCode_statusName _).symm, fun st hst => ?_⟩, fun r =>
    ⟨decode_eq_reservedOp_iff r, decode_eq_outOfRange_iff r, exists_decode_ok_iff r, exists_responseOf_iff r⟩⟩
  rw [hst, statusName_statusCode]

end Sys2Proof.Machine

/-! ### Groups, scatter and gather (`spec/30_encoding.md` R58, R60, R66) -/

namespace Sys2Proof.Machine

/-- Position `2^k` is in group `k` only (R60). -/
theorem coverMask_bit_hamming_iff (k m : Fin 5) : (coverMask m).getLsbD (2 ^ k.val) = decide (m = k) := by
  rw [coverMask_bit m (hammingPosition_lt k), Nat.testBit_two_pow]
  simp [Fin.ext_iff, eq_comm]

theorem popcount_coverMask (k : Fin 5) : popcount (coverMask k) = 16 := by
  revert k
  decide

/-- The index of a data position has at least two bits set, so two groups cover it (R60). -/
theorem exists_two_groups {j : Nat} (hj : j < 32) (hc : j ∉ checkPositions) :
    ∃ k m : Fin 5, k ≠ m ∧ (coverMask k).getLsbD j = true ∧ (coverMask m).getLsbD j = true := by
  have h : ∀ j : Fin 32, j.val ∉ checkPositions → ∃ k m : Fin 5, k ≠ m ∧ j.val.testBit k.val = true ∧
      j.val.testBit m.val = true := by decide
  simpa only [coverMask_bit _ hj] using h ⟨j, hj⟩ hc

/-- Settles O2: the groups follow from the membership rule, and a data position of a codeword is the bit that `GATHER`
reads there. -/
theorem positionRolesAndGroups : Obligations.PositionRolesAndGroups := by
  refine ⟨⟨rfl, rfl, rfl, rfl, rfl⟩, fun k j => coverMask_bit k j.isLt, popcount_coverMask, fun k => ?_,
    coverMask_bit_hamming_iff, fun j hc => exists_two_groups j.isLt hc, fun d j hc => ?_⟩
  · rw [coverMask_bit k (by decide), Nat.zero_testBit]
  · rw [bit_eq_gather_num (enc d) j.isLt hc, gather_enc]

/-- The mask of the data positions has a one everywhere but at the six check positions (R66). -/
theorem dataPositionMask_bit {j : Nat} (hj : j < 32) :
    (0xFFFEFEE8#32).getLsbD j = decide (j ∉ checkPositions) := by
  have h : ∀ j : Fin 32, (0xFFFEFEE8#32).getLsbD j.val = decide (j.val ∉ checkPositions) := by decide
  exact h ⟨j, hj⟩

/-- A scattered word carries the data bit that `NUM` names at a data position and zero elsewhere. -/
theorem scatter_bit (d : DataWord) {j : Nat} (hj : j < 32) :
    (scatter d).getLsbD j = (decide (j ∉ checkPositions) && d.getLsbD (num j)) := by
  by_cases hc : j ∈ checkPositions
  · rw [scatter_bit_check d j hc]
    simp [hc]
  · obtain ⟨hn, hpos⟩ := pos_num hj hc
    have hbit := scatter_bit_pos d ⟨num j, hn⟩
    rw [hpos] at hbit
    simp [hbit, hc]

/-- Scattering a data word leaves nothing at the check positions (R66). -/
theorem scatter_and_checkMask (d : DataWord) : scatter d &&& 0x00010117#32 = 0#32 := by
  have hmask : (0x00010117#32 : Word32) = ~~~ 0xFFFEFEE8#32 := by decide
  apply BitVec.eq_of_getLsbD_eq
  intro j hj
  rw [BitVec.getLsbD_and, hmask, BitVec.getLsbD_not, scatter_bit d hj, dataPositionMask_bit hj]
  by_cases hc : j ∈ checkPositions <;> simp [hc]

/-- `GATHER` undoes `SCATTER` (R66). -/
theorem gather_scatter (d : DataWord) : gather (scatter d) = d := by
  apply BitVec.eq_of_getLsbD_eq
  intro j hj
  rw [gather_bit (scatter d) ⟨j, hj⟩, scatter_bit_pos]

/-- `SCATTER` of `GATHER` keeps exactly the data positions (R66). -/
theorem scatter_gather (w : Word32) : scatter (gather w) = w &&& 0xFFFEFEE8#32 := by
  apply BitVec.eq_of_getLsbD_eq
  intro j hj
  rw [scatter_bit _ hj, BitVec.getLsbD_and, dataPositionMask_bit hj]
  by_cases hc : j ∈ checkPositions
  · simp [hc]
  · simp [hc, bit_eq_gather_num w hj hc, -BitVec.getLsbD_eq_getElem]

/-- Settles O4: the covers are facts of the masks, and both laws hold position by position. -/
theorem scatterAndGatherAreInverse : Obligations.ScatterAndGatherAreInverse :=
  ⟨fun _ => rfl, gather_eq_extract, by decide, by decide, by decide, by decide, scatter_and_checkMask, gather_scatter,
    scatter_gather⟩

/-! ### The laws of `PAR` (`spec/40_parity.md` R92) -/

/-- A mask distributes over XOR. -/
theorem xor_and_distrib {width : Nat} (a b m : BitVec width) : (a ^^^ b) &&& m = (a &&& m) ^^^ (b &&& m) := by
  apply BitVec.eq_of_getLsbD_eq
  intro j _
  simp only [BitVec.getLsbD_and, BitVec.getLsbD_xor, Bool.and_xor_distrib_right]

/-- A disjoint union is an XOR. -/
theorem or_eq_xor_of_and_eq_zero {a b : Word32} (h : a &&& b = 0#32) : a ||| b = a ^^^ b := by
  apply BitVec.eq_of_getLsbD_eq
  intro j _
  have hdisjoint : (a.getLsbD j && b.getLsbD j) = false := by
    rw [← BitVec.getLsbD_and, h, BitVec.getLsbD_zero]
  rw [BitVec.getLsbD_or, BitVec.getLsbD_xor]
  cases ha : a.getLsbD j
  · simp
  · rw [ha, Bool.true_and] at hdisjoint
    simp [hdisjoint]

/-- Settles O11: linearity is that of the loop, and the other laws rewrite their operand to an XOR or a single bit. -/
theorem parityLaws : Obligations.ParityLaws := by
  refine ⟨par_of_xor, fun a b h => ?_, fun a b m => ?_, fun j m => par_of_oneHot_and m j.isLt⟩
  · rw [or_eq_xor_of_and_eq_zero h, par_of_xor]
  · rw [xor_and_distrib, par_of_xor]

/-! ### Placing the parity bits in any order (`spec/41_encoder.md` R98) -/

/-- A bit placed at the parity position of one group leaves the check of every other group. -/
theorem groupCheck_or_bitAt_of_ne (w : Word32) (b : Bool) {k m : Fin 5} (hne : m ≠ k) :
    groupCheck (w ||| bitAt b (2 ^ k.val)) m = groupCheck w m := by
  refine par_and_of_agreement fun j _ hm => ?_
  have hj : j ≠ 2 ^ k.val := by
    rintro rfl
    rw [coverMask_bit_hamming_iff] at hm
    exact hne (of_decide_eq_true hm)
  simp [bitAt_bit, hj, -BitVec.getLsbD_eq_getElem]

theorem placeParity_comm (w : Word32) (k m : Fin 5) :
    placeParity (placeParity w k) m = placeParity (placeParity w m) k := by
  by_cases hne : m = k
  · rw [hne]
  · simp only [placeParity, groupCheck_or_bitAt_of_ne w _ hne, groupCheck_or_bitAt_of_ne w _ (Ne.symm hne)]
    rw [BitVec.or_assoc, BitVec.or_assoc, BitVec.or_comm (bitAt _ _)]

/-- Placed in ascending order, the five parity bits make `hp` (R97). -/
theorem foldl_placeParity_scatter (d : DataWord) : [0, 1, 2, 3, 4].foldl placeParity (scatter d) = encHp d := by
  simp only [List.foldl_cons, List.foldl_nil, placeParity, groupCheck_or_bitAt_of_ne, ne_eq, Fin.reduceEq,
    not_false_eq_true]
  rfl

/-- Settles O15: placing two parity bits commutes, so every order gives the word of the ascending one. -/
theorem parityPlacementOrderIrrelevant : Obligations.ParityPlacementOrderIrrelevant := by
  intro d order horder
  rw [horder.foldl_eq' (fun k _ m _ w => placeParity_comm w k m), foldl_placeParity_scatter]

/-! ### The encoder as a linear map (`spec/41_encoder.md` R95, section 3) -/

/-- Settles O18: both halves are facts of the encoder's word, bit by bit. -/
theorem encoderOutputIsValid : Obligations.EncoderOutputIsValid := fun d => ⟨validCodeword_enc d, gather_enc d⟩

/-- `ENC` is linear: the XOR of two codewords is a codeword and carries the XOR of their data. -/
theorem enc_of_xor (a b : DataWord) : enc (a ^^^ b) = enc a ^^^ enc b := by
  refine enc_eq_of_gather_eq (validCodeword_xor (validCodeword_enc a) (validCodeword_enc b)) ?_
  rw [gather_of_xor, gather_enc, gather_enc]

set_option maxRecDepth 4000 in
/-- The 26 generator rows of `ENC`, the codewords of the single data bits. -/
theorem enc_rows : (List.range 26).map (fun n => enc (1#26 <<< n)) =
    [0x0000000F#32, 0x00000033#32, 0x00000055#32, 0x00000096#32, 0x00000303#32, 0x00000505#32, 0x00000906#32,
     0x00001111#32, 0x00002112#32, 0x00004114#32, 0x00008117#32, 0x00030003#32, 0x00050005#32, 0x00090006#32,
     0x00110011#32, 0x00210012#32, 0x00410014#32, 0x00810017#32, 0x01010101#32, 0x02010102#32, 0x04010104#32,
     0x08010107#32, 0x10010110#32, 0x20010113#32, 0x40010115#32, 0x80010116#32] := by
  decide

/-- Settles O20: linearity holds for all data words, and the rows are 26 single encodings. -/
theorem encoderLinearWithGeneratorRows : Obligations.EncoderLinearWithGeneratorRows := ⟨enc_of_xor, enc_zero, enc_rows⟩

/-- The data bits below `n` and data bit `n` itself make up those below `n + 1`. -/
theorem lowBits_succ {width : Nat} (d : BitVec width) {n : Nat} (hn : n < width) :
    (d.setWidth (n + 1)).setWidth width =
      (d.setWidth n).setWidth width ^^^ (if d.getLsbD n then 1#width <<< n else 0#width) := by
  apply BitVec.eq_of_getLsbD_eq
  intro j hj
  have hsingle : (1#width <<< n).getLsbD j = decide (n = j) := by
    rw [← BitVec.twoPow_eq, BitVec.getLsbD_twoPow, decide_eq_true hn, Bool.true_and]
  have hterm : (if d.getLsbD n then 1#width <<< n else 0#width).getLsbD j = (d.getLsbD n && decide (n = j)) := by
    cases d.getLsbD n <;> simp [hsingle, -BitVec.getLsbD_eq_getElem]
  rw [BitVec.getLsbD_xor, hterm]
  rcases Nat.lt_trichotomy j n with h | rfl | h
  · simp [hj, h, Nat.lt_succ_of_lt h, Nat.ne_of_gt h]
  · simp [hj]
  · simp [Nat.ne_of_lt h, Nat.not_lt_of_gt h, Nat.not_lt.2 (Nat.succ_le_of_lt h)]

/-- A linear function of a value is the XOR of the bits at which it is 1, by induction on the bits seen. -/
theorem eq_xorBits_of_linear {width : Nat} {f : BitVec width → Bool} (hf : ∀ a b, f (a ^^^ b) = (f a ^^ f b))
    {m : BitVec width} (hm : ∀ n < width, f (1#width <<< n) = m.getLsbD n) (d : BitVec width) {n : Nat}
    (hn : n ≤ width) :
    f ((d.setWidth n).setWidth width) = xorBits (d &&& m) n := by
  have hzero : f 0#width = false := by simpa using hf 0#width 0#width
  induction n with
  | zero => simpa [BitVec.of_length_zero] using hzero
  | succ n ih =>
    rw [lowBits_succ d hn, hf, ih (Nat.le_of_succ_le hn), xorBits_next_round, BitVec.getLsbD_and]
    cases d.getLsbD n
    · simp [hzero]
    · simp [hm n hn]

/-- A linear function is the XOR of the bits under the mask of its values at the single bits. -/
theorem eq_xorReduce_of_linear {width : Nat} {f : BitVec width → Bool} (hf : ∀ a b, f (a ^^^ b) = (f a ^^ f b))
    {m : BitVec width} (hm : ∀ n < width, f (1#width <<< n) = m.getLsbD n) (d : BitVec width) :
    f d = xorReduce (d &&& m) := by
  simpa [xorReduce] using eq_xorBits_of_linear hf hm d (le_refl width)

/-- A codeword bit is the XOR of the data bits whose generator rows have a one there. -/
theorem enc_bit_eq_xorReduce {j : Nat} {m : DataWord}
    (hm : ∀ n < 26, (enc (1#26 <<< n)).getLsbD j = m.getLsbD n) (d : DataWord) :
    (enc d).getLsbD j = xorReduce (d &&& m) :=
  eq_xorReduce_of_linear (f := fun d => (enc d).getLsbD j) (fun a b => by rw [enc_of_xor, BitVec.getLsbD_xor]) hm d

set_option maxRecDepth 4000 in
/-- Settles O19: each mask is a column of the generator rows. -/
theorem encoderXorEquations : Obligations.EncoderXorEquations := by
  intro d
  refine ⟨enc_bit_eq_xorReduce ?_ d, enc_bit_eq_xorReduce ?_ d, enc_bit_eq_xorReduce ?_ d, enc_bit_eq_xorReduce ?_ d,
    enc_bit_eq_xorReduce ?_ d, enc_bit_eq_xorReduce ?_ d, enc_bit_pos d⟩
  all_goals decide

end Sys2Proof.Machine

/-! ### Error patterns and corrections (`spec/42_decoder.md` sections 2, 4 and 5) -/

namespace Sys2Proof.Machine

theorem decPar_of_xor (a b : Word32) : decPar (a ^^^ b) = (decPar a ^^ decPar b) := par_of_xor a b

/-- Settles O24: both checks are linear and vanish on a valid codeword, and the pattern's own checks are the XOR of its
indices and the parity of its weight. -/
theorem syndromeOfErrorPattern : Obligations.SyndromeOfErrorPattern := by
  refine ⟨fun a b => ⟨decSyn_of_xor a b, decPar_of_xor a b⟩,
    fun w err hw => ⟨decSyn_of_validCodeword_xor hw err, ?_⟩,
    fun j => ⟨decSyn_of_oneHot j.isLt, par_of_oneHot j.isLt⟩⟩
  rw [decPar_of_validCodeword_xor hw, popcount_mod_two]

/-- A flip of a check position leaves the data. -/
theorem gather_xor_oneHot_check (c : Word32) {p : Nat} (hp : p ∈ checkPositions) :
    gather (c ^^^ oneHot p) = gather c := by
  refine gather_of_agreement fun j hj => ?_
  have hne : j.val ≠ p := fun h => hj (h ▸ hp)
  rw [BitVec.getLsbD_xor, oneHot_bit, decide_eq_false hne, Bool.false_and, Bool.xor_false]

/-- Settles O29: the mask never has a one at position 0, is zero with a zero syndrome, and at a parity position flips a
bit that `GATHER` does not read. -/
theorem checkPositionsCarryNoData : Obligations.CheckPositionsCarryNoData := by
  intro c
  refine ⟨?_, fun hsyn => corrected_of_corrMask_zero (corrMask_of_decSyn_zero hsyn), fun k hfix hpos => ?_⟩
  · rw [corrected, BitVec.getLsbD_xor, corrMask_bit_zero, Bool.xor_false]
  · obtain ⟨hsyn, hpar⟩ := (decFix_iff c).1 hfix
    refine ⟨?_, (decStatus_corrected_iff c).2 ⟨hsyn, hpar⟩⟩
    rw [dec_of_decPar_odd hsyn hpar, hpos, gather_xor_oneHot_check c (mem_checkPositions_iff.2 (.inr ⟨k, rfl⟩))]

/-- Away from position 0, the mask has a one exactly where an odd-parity syndrome points. -/
theorem corrMask_bit (c : Word32) {j : Nat} (hj : j < 32) (hne : j ≠ 0) :
    (corrMask c).getLsbD j = (decPar c && decide ((decSyn c).toNat = j)) := by
  cases hfix : decFix c with
  | true =>
    obtain ⟨-, hpar⟩ := (decFix_iff c).1 hfix
    rw [corrMask_of_fix hfix, oneHot_bit, hpar, decide_eq_true hj, Bool.and_true, Bool.true_and]
    exact decide_eq_decide.2 eq_comm
  | false =>
    rw [corrMask_of_not_fix hfix, BitVec.getLsbD_zero, eq_comm, Bool.and_eq_false_iff, decide_eq_false_iff_not]
    refine or_iff_not_imp_left.2 fun hpar hsyn => Bool.eq_false_iff.1 hfix ((decFix_iff c).2 ⟨?_, by simpa using hpar⟩)
    intro h0
    exact hne (by rw [← hsyn, h0]; rfl)

/-- Settles O31: a data bit is a bit of the corrected word, and no data bit stands at position 0. -/
theorem dataOutputBitByBit : Obligations.DataOutputBitByBit := by
  intro c n
  have hne : pos n.val ≠ 0 := fun h0 => pos_not_mem_checkPositions n (mem_checkPositions_iff.2 (.inl h0))
  rw [extracted, gather_bit, corrected, BitVec.getLsbD_xor, corrMask_bit c (pos_lt n) hne]

end Sys2Proof.Machine

/-! ### Distances (`spec/43_code_properties.md` R152, R154, R159) -/

namespace Sys2Proof.Machine

theorem enc_one : enc 1#26 = 0x0000000F#32 := enc_eq_of_gather_eq (by decide) (by decide)

/-- Two different valid codewords differ in at least four positions: their XOR is a valid codeword other than 0. -/
theorem four_le_distance {a b : Word32} (ha : validCodeword a) (hb : validCodeword b) (hne : a ≠ b) :
    4 ≤ popcount (a ^^^ b) :=
  four_le_popcount_of_validCodeword (validCodeword_xor ha hb) fun h0 => hne (BitVec.xor_eq_zero_iff.1 h0)

/-- Settles O40: linearity and the weight of the nonzero codewords. -/
theorem minimumDistanceFour : Obligations.MinimumDistanceFour :=
  ⟨enc_zero ▸ validCodeword_enc 0#26, fun _ _ => validCodeword_xor, fun _ _ => four_le_distance,
    by rw [enc_one]; decide⟩

/-- With even parity and a zero syndrome, encoding the data again gives the received word (R159). -/
theorem enc_of_clean {c : Word32} {x : DataWord} (hsyn : decSyn c = 0#5) (hpar : decPar c = false)
    (hdec : dec c = .data x) : enc x = c := by
  rw [dec_of_decSyn_zero hsyn] at hdec
  exact enc_eq_of_gather_eq ((validCodeword_iff_decSyn_decPar c).2 ⟨hsyn, hpar⟩) (DecResult.data.inj hdec)

/-- With odd parity, the word with the position that the syndrome names flipped is a valid codeword. -/
theorem validCodeword_xor_oneHot_decSyn {c : Word32} (hpar : decPar c = true) :
    validCodeword (c ^^^ oneHot (decSyn c).toNat) := by
  have hlt : (decSyn c).toNat < 32 := (decSyn c).isLt
  rw [validCodeword_iff_decSyn_decPar, decSyn_of_xor, decSyn_of_oneHot hlt, decPar_of_xor, hpar, decPar,
    par_of_oneHot hlt]
  simp

/-- With odd parity, encoding the data again gives the received word up to the position that the syndrome names (R159):
position 0 carries no data, and the corrector flips every other. -/
theorem enc_of_decPar_odd {c : Word32} {x : DataWord} (hpar : decPar c = true) (hdec : dec c = .data x) :
    enc x = c ^^^ oneHot (decSyn c).toNat := by
  refine enc_eq_of_gather_eq (validCodeword_xor_oneHot_decSyn hpar) ?_
  by_cases hsyn : decSyn c = 0#5
  · rw [dec_of_decSyn_zero hsyn] at hdec
    rw [hsyn]
    exact (gather_xor_oneHot_check c (by decide)).trans (DecResult.data.inj hdec)
  · rw [dec_of_decPar_odd hsyn hpar] at hdec
    exact DecResult.data.inj hdec

/-- Settles O42: each status is its own syndrome and parity, and with a zero syndrome and odd parity the named position
is 0. -/
theorem reencodingADecodeResult : Obligations.ReencodingADecodeResult := by
  intro c x hdec
  refine ⟨validCodeword_enc x, fun hst => ?_, fun hst => ?_, fun hst => ?_, dec_enc x⟩
  · obtain ⟨hsyn, hpar⟩ := (decStatus_clean_iff c).1 hst
    exact enc_of_clean hsyn hpar hdec
  · obtain ⟨hsyn, hpar⟩ := (decStatus_p0Error_iff c).1 hst
    have henc := enc_of_decPar_odd hpar hdec
    rwa [hsyn] at henc
  · obtain ⟨-, hpar⟩ := (decStatus_corrected_iff c).1 hst
    exact enc_of_decPar_odd hpar hdec

/-- The number of ones of an XOR is at most the sum of the two numbers of ones. -/
theorem countBits_xor_le (a b : Word32) (n : Nat) : countBits (a ^^^ b) n ≤ countBits a n + countBits b n := by
  induction n with
  | zero => simp
  | succ n ih =>
    have hbit : (a.getLsbD n ^^ b.getLsbD n).toNat ≤ (a.getLsbD n).toNat + (b.getLsbD n).toNat := by
      cases a.getLsbD n <;> cases b.getLsbD n <;> decide
    simp only [countBits_next_round, BitVec.getLsbD_xor]
    omega

/-- The triangle inequality of the distance. -/
theorem popcount_triangle (a b c : Word32) : popcount (a ^^^ b) ≤ popcount (c ^^^ a) + popcount (c ^^^ b) := by
  have h : a ^^^ b = (c ^^^ a) ^^^ (c ^^^ b) := by
    rw [BitVec.xor_comm c a, BitVec.xor_assoc, ← BitVec.xor_assoc c c b, BitVec.xor_self, BitVec.zero_xor]
  rw [h]
  exact countBits_xor_le _ _ 32

theorem popcount_pos_of_ne_zero {v : Word32} (h : v ≠ 0#32) : 1 ≤ popcount v := by
  obtain ⟨j, hj, hone⟩ := exists_one_of_ne_zero h
  have hcount := popcount_flip_of_one hj hone
  omega

/-- A word that decodes to data is within distance 1 of the codeword of that data (R154). -/
theorem popcount_xor_enc_le_one {c : Word32} {x : DataWord} (hdec : dec c = .data x) : popcount (c ^^^ enc x) ≤ 1 := by
  cases hpar : decPar c with
  | true =>
    rw [enc_of_decPar_odd hpar hdec, ← BitVec.xor_assoc, BitVec.xor_self, BitVec.zero_xor]
    exact le_of_eq (popcount_of_oneHot (decSyn c).isLt)
  | false =>
    have hsyn : decSyn c = 0#5 := by
      by_contra hne
      rw [dec_of_decPar_even hne hpar] at hdec
      cases hdec
    rw [enc_of_clean hsyn hpar hdec, BitVec.xor_self]
    decide

/-- No second valid codeword is within distance 1 of a word, since the two would be at distance 2 at most. -/
theorem eq_of_within_one {c v w : Word32} (hv : validCodeword v) (hw : validCodeword w)
    (hcv : popcount (c ^^^ v) ≤ 1) (hcw : popcount (c ^^^ w) ≤ 1) : w = v := by
  by_contra hne
  have hfour := four_le_distance hw hv hne
  have htriangle := popcount_triangle w v c
  omega

/-- A double-error word is at distance 2 or more from every valid codeword: at an even distance, and not at 0 (R154). -/
theorem two_le_distance_of_ded {c w : Word32} (hdec : dec c = .doubleErrorDetected) (hw : validCodeword w) :
    2 ≤ popcount (c ^^^ w) := by
  obtain ⟨hsyn, hpar⟩ := (decDed_iff c).1 ((dec_eq_doubleErrorDetected_iff c).1 hdec)
  have heven : popcount (c ^^^ w) % 2 = 0 := by
    rw [← par_eq_false_iff_popcount_even, par_of_xor, hw.2, Bool.xor_false]
    exact hpar
  have hne : c ^^^ w ≠ 0#32 := by
    intro h0
    exact hsyn (BitVec.xor_eq_zero_iff.1 h0 ▸ decSyn_of_validCodeword hw)
  have hpos := popcount_pos_of_ne_zero hne
  omega

/-- A word with a given syndrome and parity: one flip at the position that the syndrome names, and one at position 0
where the parity is to be even. -/
def classLeader (i : Syndrome) (p : Bool) : Word32 := oneHot i.toNat ^^^ bitAt (!p) 0

theorem decSyn_classLeader (i : Syndrome) (p : Bool) : decSyn (classLeader i p) = i := by
  have hzero : decSyn (bitAt (!p) 0) = 0#5 := (decSyn_eq_zero_iff _).2 (groupCheck_of_bitAt_zero (!p))
  rw [classLeader, decSyn_of_xor, decSyn_of_oneHot i.isLt, hzero, BitVec.xor_zero, BitVec.ofNat_toNat,
    BitVec.setWidth_eq]

theorem decPar_classLeader (i : Syndrome) (p : Bool) : decPar (classLeader i p) = p := by
  rw [classLeader, decPar_of_xor, decPar, decPar, par_of_oneHot i.isLt, par_of_bitAt _ (by decide), Bool.true_xor,
    Bool.not_not]

/-- The words of a class are the codewords with the class leader's flips (R154). -/
theorem exists_enc_xor_classLeader_iff (i : Syndrome) (p : Bool) (c : Word32) :
    (∃ d, enc d ^^^ classLeader i p = c) ↔ decSyn c = i ∧ decPar c = p := by
  constructor
  · rintro ⟨d, rfl⟩
    rw [decSyn_of_xor, decPar_of_xor, decSyn_enc, decPar_enc, decSyn_classLeader, decPar_classLeader]
    simp
  · rintro ⟨hsyn, hpar⟩
    have hvalid : validCodeword (c ^^^ classLeader i p) := by
      rw [validCodeword_iff_decSyn_decPar, decSyn_of_xor, decPar_of_xor, decSyn_classLeader, decPar_classLeader,
        hsyn, hpar]
      simp
    refine ⟨gather (c ^^^ classLeader i p), ?_⟩
    rw [enc_gather hvalid, BitVec.xor_assoc, BitVec.xor_self, BitVec.xor_zero]

/-- Settles O41: a class is the codewords moved by one word, and the minimum distance makes the nearest codeword
unique. -/
theorem syndromeParityClasses : Obligations.SyndromeParityClasses := by
  refine ⟨fun i p => ⟨fun d => enc d ^^^ classLeader i p, fun a b h => enc_injective ((BitVec.xor_left_inj _).1 h),
    exists_enc_xor_classLeader_iff i p⟩, fun c x hdec => ?_, fun c w => two_le_distance_of_ded⟩
  have hnear := popcount_xor_enc_le_one hdec
  exact ⟨hnear, fun w hw => eq_of_within_one (validCodeword_enc x) hw hnear⟩

end Sys2Proof.Machine

/-! ### Finite tables and written-out words -/

namespace Sys2Proof.Machine

/-- `POS` lists the positions that are not check positions in ascending order (`spec/30_encoding.md` R59). -/
theorem map_pos_range : (List.range 26).map pos = (List.range 32).filter (fun j => decide (j ∉ checkPositions)) := by
  decide

/-- `NUM` undoes `POS`. -/
theorem num_pos (n : Fin 26) : num (pos n.val) = n.val := by
  revert n
  decide

/-- `POS` by the four ranges of data bits. -/
theorem pos_ranges :
    pos 0 = 3 ∧ (∀ n : Fin 26, 1 ≤ n.val ∧ n.val ≤ 3 → pos n.val = n.val + 4) ∧
    (∀ n : Fin 26, 4 ≤ n.val ∧ n.val ≤ 10 → pos n.val = n.val + 5) ∧
    (∀ n : Fin 26, 11 ≤ n.val → pos n.val = n.val + 6) := by
  decide

/-- Settles O3: the ranges, the inverse and the masks, each over its finite index. -/
theorem dataPositionMap : Obligations.DataPositionMap :=
  ⟨map_pos_range, pos_ranges, num_pos, fun j hc => (pos_num j.isLt hc).2, by decide, by decide⟩

/-- Settles O10: the entries are the parities of the nibbles, and the table is its own mirror image. -/
theorem nibbleTableEntries : Obligations.NibbleTableEntries := by
  refine ⟨rfl, fun n => ⟨?_, ?_⟩⟩
  · have hentry := nibbleParity_bit (BitVec.ofNat 4 n.val)
    rwa [BitVec.toNat_ofNat, Nat.mod_eq_of_lt n.isLt] at hentry
  · revert n
    decide

/-- The codeword of the document's scenario (`spec/43_code_properties.md` R149). -/
theorem enc_scenario : enc 12345678#26 = 0x2F1929E0#32 := enc_eq_of_gather_eq (by decide) (by decide)

/-- Settles O38: the weight is that of the written-out codeword; parity and round trip hold of every codeword. -/
theorem concreteScenario : Obligations.ConcreteScenario :=
  ⟨enc_scenario, by rw [enc_scenario]; decide, (validCodeword_enc _).2, dec_enc _⟩

/-- Settles O48: the accepted words are the words of their instructions, the others have the fields of the
rejections. -/
theorem writtenOutRequestsDecode : Obligations.WrittenOutRequestsDecode :=
  ⟨decode_encode (.par 0x12345678#32), decode_encode (.enc 12345678#26), decode_encode (.dec 0x2F3929E0#32),
    decode_enc_of_argHigh_ne_zero (a := 0x04000000#32) (by decide), decode_reserved 0#32⟩

end Sys2Proof.Machine

/-! ### The operations in every state, the ports and reset (`spec/10_state.md`, `spec/70_reset_and_hazards.md`) -/

namespace Sys2Proof.Machine

theorem exec_par (v : Word32) (s : State) : exec (.par v) s = .next ((s.drivePar v).respond (.parityBit (par v))) := rfl

theorem exec_enc (d : DataWord) (s : State) :
    exec (.enc d) s = .next ((s.driveEnc d).respond (.codeword (enc d))) := rfl

theorem exec_dec (c : Word32) (s : State) :
    exec (.dec c) s = .next ((s.driveDec c).respond (decResponse (dec c))) := rfl

/-- Settles O12: `PAR` drives its own port and answers, and neither touches anything else. -/
theorem parAnswersAndFrame : Obligations.ParAnswersAndFrame := by
  intro v s
  refine ⟨_, exec_par v s, ?_⟩
  simp [par]

/-- Settles O21: `ENC` drives its own port and answers, and neither touches anything else. -/
theorem encAnswersAndFrame : Obligations.EncAnswersAndFrame := by
  intro d s
  refine ⟨_, exec_enc d s, ?_⟩
  simp

/-- `DEC` returns data exactly without a double error, and then the data wires carry it (`spec/42_decoder.md` R130). -/
theorem ports_of_dec_data {c : Word32} {x : DataWord} (h : dec c = .data x) : decDed c = false ∧ decData c = x := by
  cases hded : decDed c with
  | true =>
    rw [(dec_eq_doubleErrorDetected_iff c).2 hded] at h
    cases h
  | false =>
    rw [dec_of_not_ded hded] at h
    exact ⟨rfl, (decData_of_not_ded hded).trans (DecResult.data.inj h)⟩

/-- Settles O34: `DEC` drives its own port and answers; the result of `DEC` says what `dec_ded` and the data wires
are. -/
theorem decAnswersAndFrame : Obligations.DecAnswersAndFrame := by
  intro c s
  refine ⟨_, exec_dec c s, rfl, fun x hx => ?_, fun hx => ?_, ?_⟩
  · obtain ⟨hded, hdata⟩ := ports_of_dec_data hx
    simp [hx, hded, hdata, decResponse]
  · simp [hx, (dec_eq_doubleErrorDetected_iff c).1 hx, decResponse]
  · simp

/-- Settles O54: `dec_ded` is the function of the word that is on `dec_code`. -/
theorem doubleErrorSignalIsALevel : Obligations.DoubleErrorSignalIsALevel := by
  intro s c c' hsyn hpar hclass
  have hded : decDed c = true := (decDed_iff c).2 ⟨hsyn, hpar⟩
  have hded' : decDed c' = false := Bool.eq_false_iff.2 fun h => hclass ((decDed_iff c').1 h)
  simp [hded, hded']

/-- Settles O55: an output is a function mapped over the input of its unit, and driving or releasing a port changes that
port alone. -/
theorem outputsDefinedWhenInputDriven : Obligations.OutputsDefinedWhenInputDriven := by
  refine ⟨fun s => ?_, fun s => ?_, fun s v d c => ?_, fun s d c => ?_, fun s v c => ?_, fun s v d => ?_⟩
  · simp [State.parOut, State.encCode, State.decDataOut, State.decDedOut, State.decSynOut, State.decParOut,
      State.decStatusOut]
  all_goals simp

/-- Settles O56: each of the six orders is the same record update. -/
theorem unitsDoNotInterfere : Obligations.UnitsDoNotInterfere := by
  intro s v d c t ht
  have hstate : t = { s with parIn := some v, encData := some d, decCode := some c } := by
    simp only [List.mem_cons, List.not_mem_nil, or_false] at ht
    obtain rfl | rfl | rfl | rfl | rfl | rfl := ht <;> rfl
  subst hstate
  exact ⟨rfl, rfl, rfl, rfl, rfl, rfl, rfl, rfl⟩

/-- Settles O57: every field of the reset state is empty, so the outputs are too and no codeword was returned. -/
theorem resetHoldsNothing : Obligations.ResetHoldsNothing :=
  ⟨rfl, rfl, rfl, rfl, rfl, rfl, rfl, rfl, rfl, rfl, rfl, rfl, fun _ hw => absurd hw List.not_mem_nil⟩

end Sys2Proof.Machine
